-- ==== Sys2Proof/Word.lean ====
section
/-! DEFINITION. The two sizes of value the machine moves: the byte (`00_scope.md` R4, data width) and the 16-bit
word of an address (R4, address width). -/

namespace Sys2Proof

/-- A memory byte or an 8-bit register: 8 bits, read as 0..255 or as -128..127 by the instruction that uses it
(`10_state.md` R13). -/
abbrev Byte := BitVec 8

/-- A 16-bit address or the program counter (`00_scope.md` R4, `10_state.md` R25). -/
abbrev Word := BitVec 16

end Sys2Proof
end

