-- ==== Sys2Proof/Config.lean ====
section
/-! DEFINITION. What an implementation fixes: the parameters of `00_scope.md` R5 that a model takes as arguments,
as plain data, and the free values, which nothing in Lean can evaluate. -/

namespace Sys2Proof

/-- What ADC and SBC do while `D = 1` (`45_arith_logic_compare.md` R126). -/
inductive DecimalMode where
  /-- the step has no meaning -/
  | refuse
  /-- the packed-BCD arithmetic of the NMOS part, R136 and R137 -/
  | nmosBcd
  /-- `D` is ignored, R124 and R125 apply unchanged -/
  | binary
  deriving DecidableEq, Repr

/-- What stands at an address (`00_scope.md` R5, parameter `MemMap`). -/
inductive MemKind where
  /-- plain storage (`20_memory.md` R42) -/
  | ram
  /-- a read as of `ram`; a write is discarded (`93_implementation_defined.md` U8) -/
  | rom
  /-- nothing answers: a read is any value (`93_implementation_defined.md` U6) -/
  | absent
  /-- a device, whose behaviour the spec does not give (`93_implementation_defined.md` U7) -/
  | device
  deriving DecidableEq, Repr

/-- One region of the platform's address map: `size` addresses from `base` on. -/
structure Region where
  base : Nat
  size : Nat
  kind : MemKind
  deriving DecidableEq, Repr

/-- Values a harness supplies for a RESET (`00_scope.md` R5, parameter `ResetState`): the registers and the flags
other than `I`. -/
structure ResetValues where
  a : Byte
  x : Byte
  y : Byte
  sp : Byte
  c : Bool
  z : Bool
  d : Bool
  v : Bool
  n : Bool
  deriving DecidableEq, Repr

/-- The parameters of R5 that the model takes as arguments. They are chosen before a run and no step changes them
(log 5). `memMap` is a list of regions, the first that holds an address deciding; an address in none is `ram`, so the
empty list is the spec's default. `resetState = none` is the spec's default, no value. -/
structure Params where
  decimal : DecimalMode
  memMap : List Region
  resetState : Option ResetValues
  deriving DecidableEq, Repr

/-- The parameters a run starts with: all `ram` and no reset values, as R5 says; for `DecimalMode` the one choice of
R126 with a decimal result on this part (DESIGN CHOICE, log 4; R5's own default is `refuse`). -/
def Params.default : Params := { decimal := .nmosBcd, memMap := [], resetState := none }

namespace Config

/-- FREE VALUE (log 8). The `n`-th byte that the spec leaves open: what a read of an absent address returns
(`93_implementation_defined.md` U6), and the registers a RESET leaves unspecified (`10_state.md` R23). -/
opaque freeByte : Nat → Byte

/-- FREE VALUE (log 8). The `n`-th flag that the spec leaves open: the flags a RESET leaves unspecified
(`10_state.md` R23). -/
opaque freeBit : Nat → Bool

end Config

end Sys2Proof
end

