-- ==== Sys2Proof/Machine/Bits.lean ====
section
/-! DEFINITION. Slices, concatenation and extension (`00_scope.md` R6). -/

namespace Sys2Proof.Machine

/-- `hi(w) = w[15:8]` (R6). -/
def hiByte (w : Word) : Byte := w.extractLsb' 8 8

/-- `lo(w) = w[7:0]` (R6). -/
def loByte (w : Word) : Byte := w.extractLsb' 0 8

/-- `h : l`, the 16-bit value with high byte `h` and low byte `l` (R6). -/
def wordOf (h l : Byte) : Word := h ++ l

/-- `zext_16(v)` (R6). -/
def zext16 (b : Byte) : Word := b.setWidth 16

/-- The 16-bit two's complement of a displacement; for -128..127 it is `sext_16` of the displacement byte (R6,
`30_encoding.md` R52). -/
def wordOfInt (d : Int) : Word := BitVec.ofInt 16 d

/-- `signed8(v)` (R6). -/
def signed8 (b : Byte) : Int := b.toInt

/-- The byte that spells a displacement (`30_encoding.md` R52). -/
def byteOfInt (d : Int) : Byte := BitVec.ofInt 8 d

end Sys2Proof.Machine
end

