-- ==== Sys2Proof/Machine/Memory.lean ====
section
/-! DEFINITION. Memory as plain data: the 65536 bytes of `20_memory.md` R30 as a list of (address, byte) cells in one
canonical form, the addresses the processor fixes (R41), and the platform's map (`00_scope.md` R5, `MemMap`). -/

namespace Sys2Proof.Machine

/-- Memory: the bytes that differ from `unlistedByte`, by rising address (R30). -/
abbrev Memory := List Host.Cell

/-- What an address that memory does not list reads as. The spec gives memory no content at power-on
(`10_state.md` R23, `93_implementation_defined.md` U6). DESIGN CHOICE $00, unsafe, log 1. -/
def unlistedByte : Byte := 0x00#8

/-- The byte at an address (`20_memory.md` R33). -/
def Memory.get (a : Nat) : Memory → Byte
  | [] => unlistedByte
  | (b, v) :: rest => if a = b then v else Memory.get a rest

/-- Memory with the byte `v` at the address `a`, in canonical form: a cell that would hold `unlistedByte` is not
listed. -/
def Memory.put (a : Nat) (v : Byte) : Memory → Memory
  | [] => if v = unlistedByte then [] else [(a, v)]
  | (b, w) :: rest =>
    if a < b then
      if v = unlistedByte then (b, w) :: rest else (a, v) :: (b, w) :: rest
    else if a = b then
      if v = unlistedByte then rest else (a, v) :: rest
    else (b, w) :: Memory.put a v rest

/-- `MemRead(addr, 1)` on plain storage (`20_memory.md` R33, R42). -/
def Memory.read (m : Memory) (a : Word) : Byte := Memory.get a.toNat m

/-- `MemWrite(addr, 1, v)` on plain storage (`20_memory.md` R33, R42). -/
def Memory.write (m : Memory) (a : Word) (v : Byte) : Memory := Memory.put a.toNat v m

/-- The cells lie at rising addresses from `low` on, below 65536, and none holds `unlistedByte`. -/
def Memory.wfFrom (low : Nat) : Memory → Bool
  | [] => true
  | (b, v) :: rest => decide (low ≤ b) && decide (b < 65536) && decide (v ≠ unlistedByte) && Memory.wfFrom (b + 1) rest

/-- The canonical form of memory. -/
def Memory.wf (m : Memory) : Bool := Memory.wfFrom 0 m

/-- `Read16` on plain storage: the low byte at `a`, the high byte at `a + 1` modulo 65536 (`20_memory.md` R35). -/
def Memory.read16 (m : Memory) (a : Word) : Word := wordOf (m.read (a + 1)) (m.read a)

/-- What the map says stands at an address: the first region that holds it decides, and outside every region it is
`ram` (`00_scope.md` R5, `20_memory.md` R41). -/
def memKind : List Region → Nat → MemKind
  | [], _ => .ram
  | r :: rest, a => if r.base ≤ a ∧ a < r.base + r.size then r.kind else memKind rest a

/-- `StackPage` (`20_memory.md` R37, `92_eei_decisions.md` D4). -/
def stackPage : Byte := 0x01#8

/-- `$01 : S`, the stack byte that a stack pointer designates (`20_memory.md` R37). -/
def stackAddr (sp : Byte) : Word := wordOf stackPage sp

/-- `VecNMI`, the address of the vector's low byte (`20_memory.md` R41). -/
def vecNmi : Word := 0xFFFA#16

/-- `VecRESET` (`20_memory.md` R41). -/
def vecReset : Word := 0xFFFC#16

/-- `VecIRQ`, shared by IRQ and BRK (`20_memory.md` R41). -/
def vecIrq : Word := 0xFFFE#16

end Sys2Proof.Machine
end

