-- ==== Sys2Proof/Machine/State.lean ====
section
/-! DEFINITION. The state of the machine as plain data (`10_state.md`), the ways a step can stop, and the state after
RESET. -/

namespace Sys2Proof.Machine

/-- The six stored status flags (`10_state.md` R15). `P` is six booleans, not a byte: bits 5 and 4 of the pushed byte
are no state (R16). -/
structure Flags where
  /-- `C`, carry -/
  c : Bool
  /-- `Z`, zero -/
  z : Bool
  /-- `I`, interrupt disable -/
  i : Bool
  /-- `D`, decimal -/
  d : Bool
  /-- `V`, overflow -/
  v : Bool
  /-- `N`, negative -/
  n : Bool
  deriving DecidableEq, Repr

/-- One sample of the input lines at an instruction boundary, `true` for asserted (`70_reset_and_hazards.md` R191):
the reset input (`60_exceptions.md` R160), `NmiLine` (R163) and `IrqLine` (R164). -/
structure Lines where
  reset : Bool
  nmi : Bool
  irq : Bool
  deriving DecidableEq, Repr

/-- No line asserted: the default of `00_scope.md` R5. -/
def Lines.released : Lines := { reset := false, nmi := false, irq := false }

/-- The four 8-bit registers `x[r]` of `00_scope.md` R7. -/
inductive Reg where
  | a | x | y | s
  deriving DecidableEq, Repr

/-- The whole machine. -/
structure State where
  /-- `A`, the accumulator (`10_state.md` R10) -/
  a : Byte
  /-- `X` (`10_state.md` R11) -/
  x : Byte
  /-- `Y` (`10_state.md` R12) -/
  y : Byte
  /-- `S`, the stack pointer: the next free byte is at `$01 : S` (`10_state.md` R14, `20_memory.md` R37) -/
  sp : Byte
  /-- `pc`, between steps the address of the next opcode byte (`10_state.md` R25) -/
  pc : Word
  /-- `P` (`10_state.md` R15) -/
  p : Flags
  /-- memory (`20_memory.md` R30) -/
  mem : Memory
  /-- `nmi_pending`, the latch a falling edge on `NmiLine` sets (`10_state.md` R21, `60_exceptions.md` R163) -/
  nmiPending : Bool
  /-- `i_poll`, the value of `I` that masks IRQ at the next boundary: one instruction late after CLI, SEI and PLP
  (`60_exceptions.md` R164) -/
  iPoll : Bool
  /-- the lines as last sampled: the level of IRQ (`10_state.md` R21) and the level an NMI edge is seen against
  (`60_exceptions.md` R163) -/
  lines : Lines
  /-- what the outside world will put on the lines, one sample a boundary; after the last, nothing is asserted
  (`00_scope.md` R5, `IrqLine` and `NmiLine`; log 10) -/
  inputs : List Lines
  /-- the parameters of `00_scope.md` R5 (log 5) -/
  params : Params
  /-- the model's own: how many free values have been taken (log 8) -/
  draws : Nat
  deriving DecidableEq, Repr

/-- The machine stops with no fault: no access can fault (`20_memory.md` R46) and there is no synchronous exception but
BRK, which is an instruction with an effect (`60_exceptions.md` R172). So the type has no constructor. -/
inductive Fault where
  deriving DecidableEq, Repr

/-- The situations the spec gives no meaning (`00_scope.md` R7, `refuse(reason)`). Each is safe: the model stops where
the hardware goes on. -/
inductive Refusal where
  /-- raised by an arm of `exec` whose instruction has no meaning yet; no arm of this model does; safe -/
  | notModelled (mnemonic : String)
  /-- raised by the fetch of one of the 105 undefined opcode bytes (`30_encoding.md` R57); safe -/
  | undefinedOpcode (byte : Byte) (pc : Word)
  /-- raised by ADC and SBC with `D = 1` under `DecimalMode = refuse` (`45_arith_logic_compare.md` R126); safe -/
  | decimalArithmetic
  /-- raised by a read or write of an address the map marks `device` (`93_implementation_defined.md` U7); safe -/
  | deviceAccess (addr : Word)
  /-- raised by a JSR whose pushes overwrite its own third byte (`93_implementation_defined.md` U19); safe -/
  | jsrOverwritesOperand (pc : Word)
  deriving DecidableEq, Repr

/-- The outcome of a computation on the machine that gives an `α`. -/
abbrev Answer (α : Type) := Host.Outcome α Fault Refusal

/-- The outcome of a step. -/
abbrev Result := Answer State

/-- Memory right after RESET with nothing loaded: RESET writes nothing and the spec gives no content
(`10_state.md` R23); nothing is listed. -/
def resetMemory : Memory := []

/-- The machine right after RESET with nothing loaded (`70_reset_and_hazards.md` R180, `10_state.md` R23): `pc` from the
RESET vector, `I = 1`, `nmi_pending = 0`, no line asserted. The other registers and flags have no value in the spec:
DESIGN CHOICE zero, and $FD for `S`, unsafe, log 2. -/
def State.reset : State where
  a := 0x00#8
  x := 0x00#8
  y := 0x00#8
  sp := 0xFD#8
  pc := resetMemory.read16 vecReset
  p := { c := false, z := false, i := true, d := false, v := false, n := false }
  mem := resetMemory
  nmiPending := false
  iPoll := true
  lines := Lines.released
  inputs := []
  params := Params.default
  draws := 0

end Sys2Proof.Machine
end

