-- ==== Sys2Proof/Machine/Flags.lean ====
section
/-! DEFINITION. Every flag computation: `SetNZ`, `P` as a byte, and the results with flags of the arithmetic, compare,
bit-test and shift instructions. -/

namespace Sys2Proof.Machine

/-- `SetNZ(v)` (`10_state.md` R17). -/
def setNZ (v : Byte) (p : Flags) : Flags := { p with n := v.getLsbD 7, z := decide (v = 0x00#8) }

/-- `PByte(b) = N : V : 1 : b : D : I : Z : C` (`10_state.md` R16). -/
def pByte (b : Bool) (p : Flags) : Byte :=
  BitVec.ofBool p.n ++ BitVec.ofBool p.v ++ 1#1 ++ BitVec.ofBool b ++
    BitVec.ofBool p.d ++ BitVec.ofBool p.i ++ BitVec.ofBool p.z ++ BitVec.ofBool p.c

/-- The flags a pulled byte gives; bits 5 and 4 are ignored (`10_state.md` R16, `42_stack_flags.md` R104). -/
def flagsOfByte (b : Byte) : Flags where
  c := b.getLsbD 0
  z := b.getLsbD 1
  i := b.getLsbD 2
  d := b.getLsbD 3
  v := b.getLsbD 6
  n := b.getLsbD 7

/-- A one-bit flag counted as 0 or 1. -/
def bitNat (b : Bool) : Nat := if b then 1 else 0

/-- Binary ADC: the sum and the flags (`45_arith_logic_compare.md` R124). -/
def adcBinary (a m : Byte) (p : Flags) : Byte × Flags :=
  let sum := a.toNat + m.toNat + bitNat p.c
  let r := BitVec.ofNat 8 sum
  (r, setNZ r { p with
    c := decide (sum > 0xFF)
    v := decide (((a ^^^ r) &&& (m ^^^ r) &&& 0x80#8) ≠ 0#8) })

/-- Binary SBC: the difference and the flags (`45_arith_logic_compare.md` R125). -/
def sbcBinary (a m : Byte) (p : Flags) : Byte × Flags :=
  let diff : Int := (a.toNat : Int) - (m.toNat : Int) - (1 - (bitNat p.c : Int))
  let r := BitVec.ofInt 8 diff
  (r, setNZ r { p with
    c := decide (diff ≥ 0)
    v := decide (((a ^^^ m) &&& (a ^^^ r) &&& 0x80#8) ≠ 0#8) })

/-- Decimal ADC of the NMOS part (`45_arith_logic_compare.md` R136): `Z` from the binary sum, `N` and `V` from the sum
before the high digit is corrected. -/
def adcDecimal (a m : Byte) (p : Flags) : Byte × Flags :=
  let low := (a &&& 0x0F#8).toNat + (m &&& 0x0F#8).toNat + bitNat p.c
  let al := if low ≥ 0x0A then (low + 0x06) % 16 + 0x10 else low
  let t := (a &&& 0xF0#8).toNat + (m &&& 0xF0#8).toNat + al
  let tb := BitVec.ofNat 8 t
  let u := if t ≥ 0xA0 then t + 0x60 else t
  (BitVec.ofNat 8 u, { p with
    z := decide ((a.toNat + m.toNat + bitNat p.c) % 256 = 0)
    n := tb.getLsbD 7
    v := decide (((a ^^^ tb) &&& (m ^^^ tb) &&& 0x80#8) ≠ 0#8)
    c := decide (u ≥ 0x100) })

/-- Decimal SBC of the NMOS part (`45_arith_logic_compare.md` R137): the flags are those of the binary SBC. -/
def sbcDecimal (a m : Byte) (p : Flags) : Byte × Flags :=
  let low : Int := ((a &&& 0x0F#8).toNat : Int) - ((m &&& 0x0F#8).toNat : Int) - (1 - (bitNat p.c : Int))
  let al : Int := if low < 0 then (low - 0x06) % 16 - 0x10 else low
  let t : Int := ((a &&& 0xF0#8).toNat : Int) - ((m &&& 0xF0#8).toNat : Int) + al
  let u : Int := if t < 0 then t - 0x60 else t
  (BitVec.ofInt 8 u, (sbcBinary a m p).2)

/-- What ADC computes: binary while `D = 0`, and as `DecimalMode` says while `D = 1`, where `none` is a refusal
(`45_arith_logic_compare.md` R124, R126). -/
def adcResult (mode : DecimalMode) (a m : Byte) (p : Flags) : Option (Byte × Flags) :=
  if p.d then
    match mode with
    | .refuse => none
    | .nmosBcd => some (adcDecimal a m p)
    | .binary => some (adcBinary a m p)
  else some (adcBinary a m p)

/-- What SBC computes, with `DecimalMode` as for ADC (`45_arith_logic_compare.md` R125, R126). -/
def sbcResult (mode : DecimalMode) (a m : Byte) (p : Flags) : Option (Byte × Flags) :=
  if p.d then
    match mode with
    | .refuse => none
    | .nmosBcd => some (sbcDecimal a m p)
    | .binary => some (sbcBinary a m p)
  else some (sbcBinary a m p)

/-- The flags of a comparison of a register `r` with `m` (`45_arith_logic_compare.md` R130): `C` the unsigned
`r >= m`, `Z` equality, `N` bit 7 of the difference. -/
def compareFlags (r m : Byte) (p : Flags) : Flags :=
  { p with c := decide (r.toNat ≥ m.toNat), z := decide (r = m), n := (r - m).getLsbD 7 }

/-- The flags of BIT (`45_arith_logic_compare.md` R133): `Z` from the AND, `N` and `V` from the memory byte. -/
def bitTestFlags (a m : Byte) (p : Flags) : Flags :=
  { p with z := decide (a &&& m = 0x00#8), n := m.getLsbD 7, v := m.getLsbD 6 }

/-- `op` of ASL: the shifted byte and the bit for `C` (`43_shift_rotate.md` R112). -/
def aslOp (m : Byte) (_cin : Bool) : Byte × Bool := (m.extractLsb' 0 7 ++ 0#1, m.getLsbD 7)

/-- `op` of LSR (`43_shift_rotate.md` R113). -/
def lsrOp (m : Byte) (_cin : Bool) : Byte × Bool := (0#1 ++ m.extractLsb' 1 7, m.getLsbD 0)

/-- `op` of ROL (`43_shift_rotate.md` R114). -/
def rolOp (m : Byte) (cin : Bool) : Byte × Bool := (m.extractLsb' 0 7 ++ BitVec.ofBool cin, m.getLsbD 7)

/-- `op` of ROR (`43_shift_rotate.md` R115). -/
def rorOp (m : Byte) (cin : Bool) : Byte × Bool := (BitVec.ofBool cin ++ m.extractLsb' 1 7, m.getLsbD 0)

/-- The flags after a shift or rotate whose result is `r` and whose bit out is `c` (`43_shift_rotate.md` R116). -/
def shiftFlags (r : Byte) (c : Bool) (p : Flags) : Flags := setNZ r { p with c := c }

end Sys2Proof.Machine
end

