-- ==== Sys2Proof/Machine/Ops.lean ====
section
/-! DEFINITION. The named operations over registers and memory, the stack, taking a trap, the return from one, and
RESET. An operation that touches memory takes what follows as its last argument, because the address map may stop it
(a `device`) or take a free value (an `absent` address). -/

namespace Sys2Proof.Machine

/-- What the map says stands at an address (`00_scope.md` R5, `MemMap`). -/
def State.kindAt (s : State) (a : Word) : MemKind := memKind s.params.memMap a.toNat

/-- The byte that storage holds at an address, with no access made. -/
def State.peek (s : State) (a : Word) : Byte := s.mem.read a

/-- Memory after the byte `v` is written at `a`: only `ram` keeps it. A write to `rom` is discarded
(`93_implementation_defined.md` U8), and so is one to an absent address (log 6). -/
def State.poke (s : State) (a : Word) (v : Byte) : Memory :=
  match s.kindAt a with
  | .ram => s.mem.write a v
  | .rom => s.mem
  | .absent => s.mem
  | .device => s.mem

/-- `MemRead(a, 1)` (`20_memory.md` R33): storage answers from `ram` and `rom`, an absent address with a free value
(`93_implementation_defined.md` U6), a device with a refusal (U7). -/
def readByte {α : Type} (a : Word) (s : State) (k : Byte → State → Answer α) : Answer α :=
  match s.kindAt a with
  | .ram => k (s.peek a) s
  | .rom => k (s.peek a) s
  | .absent => k (Config.freeByte s.draws) { s with draws := s.draws + 1 }
  | .device => .refused (.deviceAccess a)

/-- `MemWrite(a, 1, v)` (`20_memory.md` R33); a device refuses (`93_implementation_defined.md` U7). -/
def writeByte {α : Type} (a : Word) (v : Byte) (s : State) (k : State → Answer α) : Answer α :=
  match s.kindAt a with
  | .ram => k { s with mem := s.poke a v }
  | .rom => k { s with mem := s.poke a v }
  | .absent => k { s with mem := s.poke a v }
  | .device => .refused (.deviceAccess a)

/-- The byte at `la` and then the byte at `ha`, as low and high byte of a word; the low byte is read first
(`20_memory.md` R35, R47). -/
def readPair {α : Type} (la ha : Word) (s : State) (k : Word → State → Answer α) : Answer α :=
  readByte la s fun l s1 => readByte ha s1 fun h s2 => k (wordOf h l) s2

/-- `Read16(a)`, with carry into the high byte of the address (`20_memory.md` R35). -/
def read16 {α : Type} (a : Word) (s : State) (k : Word → State → Answer α) : Answer α :=
  readPair a (a + 1) s k

/-- `Read16zp(p)`, the increment wrapping inside zero page (`20_memory.md` R36). -/
def read16zp {α : Type} (p : Byte) (s : State) (k : Word → State → Answer α) : Answer α :=
  readPair (wordOf 0x00#8 p) (wordOf 0x00#8 (p + 1)) s k

/-- `Push(v)`: store at `$01 : S`, then decrement `S` (`20_memory.md` R38). -/
def push {α : Type} (v : Byte) (s : State) (k : State → Answer α) : Answer α :=
  writeByte (stackAddr s.sp) v s fun s1 => k { s1 with sp := s1.sp - 1 }

/-- `Pull()`: increment `S`, then read at `$01 : S` (`20_memory.md` R39). -/
def pull {α : Type} (s : State) (k : Byte → State → Answer α) : Answer α :=
  readByte (stackAddr (s.sp + 1)) { s with sp := s.sp + 1 } k

/-- Pushing a word is `Push(hi)` then `Push(lo)` (`20_memory.md` R38). -/
def pushWord {α : Type} (w : Word) (s : State) (k : State → Answer α) : Answer α :=
  push (hiByte w) s fun s1 => push (loByte w) s1 k

/-- Pulling a word is `lo` then `hi` (`20_memory.md` R39). -/
def pullWord {α : Type} (s : State) (k : Word → State → Answer α) : Answer α :=
  pull s fun l s1 => pull s1 fun h s2 => k (wordOf h l) s2

/-- `x[r]` (`00_scope.md` R7). -/
def State.reg (s : State) : Reg → Byte
  | .a => s.a
  | .x => s.x
  | .y => s.y
  | .s => s.sp

/-- `x[r] <- v` (`00_scope.md` R7). -/
def State.setReg (s : State) (r : Reg) (v : Byte) : State :=
  match r with
  | .a => { s with a := v }
  | .x => { s with x := v }
  | .y => { s with y := v }
  | .s => { s with sp := v }

/-- `x[r] <- v; SetNZ(v)` (`10_state.md` R17). -/
def State.loadReg (s : State) (r : Reg) (v : Byte) : State :=
  let t := s.setReg r v
  { t with p := setNZ v s.p }

/-- `pc <- nextpc` of an instruction of `len` bytes (`10_state.md` R25, R26). -/
def State.advance (s : State) (len : Word) : State := { s with pc := s.pc + len }

/-- The common entry sequence of BRK, IRQ and NMI (`60_exceptions.md` R162): push `ret` and `PByte(b)`, set `I`, and
take `pc` from the vector at `vec`. -/
def enterTrap {α : Type} (ret : Word) (b : Bool) (vec : Word) (s : State) (k : State → Answer α) : Answer α :=
  pushWord ret s fun s1 =>
    push (pByte b s1.p) s1 fun s2 =>
      read16 vec { s2 with p := { s2.p with i := true } } fun target s3 => k { s3 with pc := target }

/-- The return from a trap (`47_control_flow.md` R145, `60_exceptions.md` R167): pull the flags, then `pc`, adding
nothing. -/
def returnFromTrap {α : Type} (s : State) (k : State → Answer α) : Answer α :=
  pull s fun b s1 => pullWord { s1 with p := flagsOfByte b } fun target s2 => k { s2 with pc := target }

/-- The registers and flags other than `I` after a RESET (`10_state.md` R23): the values of `ResetState`, or, where a
harness supplies none, free values (log 9). -/
def State.unspecifiedByReset (s : State) : State :=
  match s.params.resetState with
  | some r =>
    { s with a := r.a, x := r.x, y := r.y, sp := r.sp, p := { s.p with c := r.c, z := r.z, d := r.d, v := r.v, n := r.n } }
  | none =>
    { s with
      a := Config.freeByte s.draws
      x := Config.freeByte (s.draws + 1)
      y := Config.freeByte (s.draws + 2)
      sp := Config.freeByte (s.draws + 3)
      p := { s.p with
        c := Config.freeBit (s.draws + 4)
        z := Config.freeBit (s.draws + 5)
        d := Config.freeBit (s.draws + 6)
        v := Config.freeBit (s.draws + 7)
        n := Config.freeBit (s.draws + 8) }
      draws := s.draws + 9 }

/-- The RESET sequence (`70_reset_and_hazards.md` R180, `60_exceptions.md` R165): `I <- 1`, `pc` from the RESET vector,
`nmi_pending <- 0`, nothing written to memory. -/
def enterReset {α : Type} (s : State) (k : State → Answer α) : Answer α :=
  let t := s.unspecifiedByReset
  read16 vecReset { t with p := { t.p with i := true }, nmiPending := false } fun target s1 => k { s1 with pc := target }

end Sys2Proof.Machine
end

