-- ==== Sys2Proof/Machine/Operands.lean ====
section
/-! DEFINITION. The thirteen addressing modes (`40_addressing_modes.md`), and the shapes of instruction that work on
the operand a mode delivers (R70): read, write, read-modify-write, transfer of control. -/

namespace Sys2Proof.Machine

/-- Zero Page: `$00 : zp` (R74). -/
def eaZp (d : Byte) : Word := wordOf 0x00#8 d

/-- Zero Page,X: `$00 : ((zp + X) AND $FF)` (R75). -/
def eaZpX (d : Byte) (s : State) : Word := wordOf 0x00#8 (d + s.x)

/-- Zero Page,Y: `$00 : ((zp + Y) AND $FF)` (R76). -/
def eaZpY (d : Byte) (s : State) : Word := wordOf 0x00#8 (d + s.y)

/-- Absolute,X: `(base + X) mod 65536` (R78). -/
def eaAbsX (base : Word) (s : State) : Word := base + zext16 s.x

/-- Absolute,Y: `(base + Y) mod 65536` (R79). -/
def eaAbsY (base : Word) (s : State) : Word := base + zext16 s.y

/-- Indirect: the pointer at `addr`, its high byte read in the same page as its low byte (R80, the NMOS bug). -/
def withIndirect {α : Type} (addr : Word) (s : State) (k : Word → State → Answer α) : Answer α :=
  readPair addr (wordOf (hiByte addr) (loByte addr + 1)) s k

/-- (Ind,X): `Read16zp((zp + X) AND $FF)` (R81). -/
def withIndX {α : Type} (d : Byte) (s : State) (k : Word → State → Answer α) : Answer α :=
  read16zp (d + s.x) s k

/-- (Ind),Y: `(Read16zp(zp) + Y) mod 65536` (R82). -/
def withIndY {α : Type} (d : Byte) (s : State) (k : Word → State → Answer α) : Answer α :=
  read16zp d s fun base s1 => k (base + zext16 s1.y) s1

/-- Relative: `(pc + 2 + disp) mod 65536` (R83). -/
def eaRel (disp : Int) (s : State) : Word := s.pc + 2 + wordOfInt disp

/-- A load of `len` bytes of code: `r <- m; SetNZ(r)` (`44_load_store.md` R123). -/
def finishLoad (r : Reg) (len : Word) (m : Byte) (s : State) : Result :=
  .next ((s.loadReg r m).advance len)

/-- A store: `MemWrite(EA, 1, r)`, no flag changed (`44_load_store.md` R123). -/
def storeReg (r : Reg) (len : Word) (ea : Word) (s : State) : Result :=
  writeByte ea (s.reg r) s fun s1 => .next (s1.advance len)

/-- ADC and SBC from what they compute, `none` being a refusal (`45_arith_logic_compare.md` R126). -/
def finishArith (result : Option (Byte × Flags)) (len : Word) (s : State) : Result :=
  match result with
  | some (r, p) => .next ({ s with a := r, p := p }.advance len)
  | none => .refused .decimalArithmetic

/-- ADC with operand `m` (`45_arith_logic_compare.md` R124, R126, R136). -/
def finishAdc (len : Word) (m : Byte) (s : State) : Result :=
  finishArith (adcResult s.params.decimal s.a m s.p) len s

/-- SBC with operand `m` (`45_arith_logic_compare.md` R125, R126, R137). -/
def finishSbc (len : Word) (m : Byte) (s : State) : Result :=
  finishArith (sbcResult s.params.decimal s.a m s.p) len s

/-- AND (`45_arith_logic_compare.md` R127). -/
def finishAnd (len : Word) (m : Byte) (s : State) : Result :=
  .next ((s.loadReg .a (s.a &&& m)).advance len)

/-- ORA (`45_arith_logic_compare.md` R128). -/
def finishOra (len : Word) (m : Byte) (s : State) : Result :=
  .next ((s.loadReg .a (s.a ||| m)).advance len)

/-- EOR (`45_arith_logic_compare.md` R129). -/
def finishEor (len : Word) (m : Byte) (s : State) : Result :=
  .next ((s.loadReg .a (s.a ^^^ m)).advance len)

/-- CMP, CPX and CPY: the register is compared and nothing but flags is written (`45_arith_logic_compare.md` R130 to
R132). -/
def finishCompare (r : Reg) (len : Word) (m : Byte) (s : State) : Result :=
  .next ({ s with p := compareFlags (s.reg r) m s.p }.advance len)

/-- BIT (`45_arith_logic_compare.md` R133). -/
def finishBit (len : Word) (m : Byte) (s : State) : Result :=
  .next ({ s with p := bitTestFlags s.a m s.p }.advance len)

/-- A shift or rotate of `A` (`43_shift_rotate.md` R116, accumulator form). -/
def shiftAcc (op : Byte → Bool → Byte × Bool) (s : State) : Result :=
  let rc := op s.a s.p.c
  .next ({ s with a := rc.1, p := shiftFlags rc.1 rc.2 s.p }.advance 1)

/-- A shift or rotate of the byte at `ea` (`43_shift_rotate.md` R116, memory form). -/
def shiftMem (op : Byte → Bool → Byte × Bool) (len : Word) (ea : Word) (s : State) : Result :=
  readByte ea s fun m s1 =>
    let rc := op m s1.p.c
    writeByte ea rc.1 s1 fun s2 => .next ({ s2 with p := shiftFlags rc.1 rc.2 s2.p }.advance len)

/-- INC and DEC: the byte at `ea` changed by `delta` modulo 256 (`46_incdec_memory.md` R140). -/
def countMem (delta : Byte) (len : Word) (ea : Word) (s : State) : Result :=
  readByte ea s fun m s1 =>
    writeByte ea (m + delta) s1 fun s2 => .next ({ s2 with p := setNZ (m + delta) s2.p }.advance len)

/-- INX, INY, DEX, DEY (`41_transfer_incdec.md` R96 to R99). -/
def countReg (r : Reg) (delta : Byte) (s : State) : Result :=
  .next ((s.loadReg r (s.reg r + delta)).advance 1)

/-- A transfer that sets N and Z (`41_transfer_incdec.md` R100). -/
def transferReg (src dst : Reg) (s : State) : Result :=
  .next ((s.loadReg dst (s.reg src)).advance 1)

/-- An instruction of one byte that writes flags only (`42_stack_flags.md`, flag control). -/
def writeFlags (p : Flags) (s : State) : Result :=
  .next ({ s with p := p }.advance 1)

/-- A conditional branch (`47_control_flow.md` R148). -/
def branchIf (cond : Bool) (disp : Int) (s : State) : Result :=
  if cond then .next { s with pc := eaRel disp s } else .next (s.advance 2)

end Sys2Proof.Machine
end

