-- ==== Sys2Proof/Machine/Arith.lean ====
section
/-! DEFINITION. Arithmetic, logic, compare and bit test (`45_arith_logic_compare.md`): one meaning for
each row of the opcode table. In each, `s.pc` is the address of the opcode byte. -/

namespace Sys2Proof.Machine

/-- `ADC #nn` (R124, mode R73). -/
def execAdcImm (d : Byte) (s : State) : Result :=
  finishAdc 2 d s

/-- `ADC $nn` (R124, mode R74). -/
def execAdcZp (d : Byte) (s : State) : Result :=
  readByte (eaZp d) s (finishAdc 2)

/-- `ADC $nn,X` (R124, mode R75). -/
def execAdcZpX (d : Byte) (s : State) : Result :=
  readByte (eaZpX d s) s (finishAdc 2)

/-- `ADC $nnnn` (R124, mode R77). -/
def execAdcAbs (addr : Word) (s : State) : Result :=
  readByte addr s (finishAdc 3)

/-- `ADC $nnnn,X` (R124, mode R78). -/
def execAdcAbsX (addr : Word) (s : State) : Result :=
  readByte (eaAbsX addr s) s (finishAdc 3)

/-- `ADC $nnnn,Y` (R124, mode R79). -/
def execAdcAbsY (addr : Word) (s : State) : Result :=
  readByte (eaAbsY addr s) s (finishAdc 3)

/-- `ADC ($nn,X)` (R124, mode R81). -/
def execAdcIndX (d : Byte) (s : State) : Result :=
  withIndX d s fun ea s1 => readByte ea s1 (finishAdc 2)

/-- `ADC ($nn),Y` (R124, mode R82). -/
def execAdcIndY (d : Byte) (s : State) : Result :=
  withIndY d s fun ea s1 => readByte ea s1 (finishAdc 2)

/-- `SBC #nn` (R125, mode R73). -/
def execSbcImm (d : Byte) (s : State) : Result :=
  finishSbc 2 d s

/-- `SBC $nn` (R125, mode R74). -/
def execSbcZp (d : Byte) (s : State) : Result :=
  readByte (eaZp d) s (finishSbc 2)

/-- `SBC $nn,X` (R125, mode R75). -/
def execSbcZpX (d : Byte) (s : State) : Result :=
  readByte (eaZpX d s) s (finishSbc 2)

/-- `SBC $nnnn` (R125, mode R77). -/
def execSbcAbs (addr : Word) (s : State) : Result :=
  readByte addr s (finishSbc 3)

/-- `SBC $nnnn,X` (R125, mode R78). -/
def execSbcAbsX (addr : Word) (s : State) : Result :=
  readByte (eaAbsX addr s) s (finishSbc 3)

/-- `SBC $nnnn,Y` (R125, mode R79). -/
def execSbcAbsY (addr : Word) (s : State) : Result :=
  readByte (eaAbsY addr s) s (finishSbc 3)

/-- `SBC ($nn,X)` (R125, mode R81). -/
def execSbcIndX (d : Byte) (s : State) : Result :=
  withIndX d s fun ea s1 => readByte ea s1 (finishSbc 2)

/-- `SBC ($nn),Y` (R125, mode R82). -/
def execSbcIndY (d : Byte) (s : State) : Result :=
  withIndY d s fun ea s1 => readByte ea s1 (finishSbc 2)

/-- `AND #nn` (R127, mode R73). -/
def execAndImm (d : Byte) (s : State) : Result :=
  finishAnd 2 d s

/-- `AND $nn` (R127, mode R74). -/
def execAndZp (d : Byte) (s : State) : Result :=
  readByte (eaZp d) s (finishAnd 2)

/-- `AND $nn,X` (R127, mode R75). -/
def execAndZpX (d : Byte) (s : State) : Result :=
  readByte (eaZpX d s) s (finishAnd 2)

/-- `AND $nnnn` (R127, mode R77). -/
def execAndAbs (addr : Word) (s : State) : Result :=
  readByte addr s (finishAnd 3)

/-- `AND $nnnn,X` (R127, mode R78). -/
def execAndAbsX (addr : Word) (s : State) : Result :=
  readByte (eaAbsX addr s) s (finishAnd 3)

/-- `AND $nnnn,Y` (R127, mode R79). -/
def execAndAbsY (addr : Word) (s : State) : Result :=
  readByte (eaAbsY addr s) s (finishAnd 3)

/-- `AND ($nn,X)` (R127, mode R81). -/
def execAndIndX (d : Byte) (s : State) : Result :=
  withIndX d s fun ea s1 => readByte ea s1 (finishAnd 2)

/-- `AND ($nn),Y` (R127, mode R82). -/
def execAndIndY (d : Byte) (s : State) : Result :=
  withIndY d s fun ea s1 => readByte ea s1 (finishAnd 2)

/-- `ORA #nn` (R128, mode R73). -/
def execOraImm (d : Byte) (s : State) : Result :=
  finishOra 2 d s

/-- `ORA $nn` (R128, mode R74). -/
def execOraZp (d : Byte) (s : State) : Result :=
  readByte (eaZp d) s (finishOra 2)

/-- `ORA $nn,X` (R128, mode R75). -/
def execOraZpX (d : Byte) (s : State) : Result :=
  readByte (eaZpX d s) s (finishOra 2)

/-- `ORA $nnnn` (R128, mode R77). -/
def execOraAbs (addr : Word) (s : State) : Result :=
  readByte addr s (finishOra 3)

/-- `ORA $nnnn,X` (R128, mode R78). -/
def execOraAbsX (addr : Word) (s : State) : Result :=
  readByte (eaAbsX addr s) s (finishOra 3)

/-- `ORA $nnnn,Y` (R128, mode R79). -/
def execOraAbsY (addr : Word) (s : State) : Result :=
  readByte (eaAbsY addr s) s (finishOra 3)

/-- `ORA ($nn,X)` (R128, mode R81). -/
def execOraIndX (d : Byte) (s : State) : Result :=
  withIndX d s fun ea s1 => readByte ea s1 (finishOra 2)

/-- `ORA ($nn),Y` (R128, mode R82). -/
def execOraIndY (d : Byte) (s : State) : Result :=
  withIndY d s fun ea s1 => readByte ea s1 (finishOra 2)

/-- `EOR #nn` (R129, mode R73). -/
def execEorImm (d : Byte) (s : State) : Result :=
  finishEor 2 d s

/-- `EOR $nn` (R129, mode R74). -/
def execEorZp (d : Byte) (s : State) : Result :=
  readByte (eaZp d) s (finishEor 2)

/-- `EOR $nn,X` (R129, mode R75). -/
def execEorZpX (d : Byte) (s : State) : Result :=
  readByte (eaZpX d s) s (finishEor 2)

/-- `EOR $nnnn` (R129, mode R77). -/
def execEorAbs (addr : Word) (s : State) : Result :=
  readByte addr s (finishEor 3)

/-- `EOR $nnnn,X` (R129, mode R78). -/
def execEorAbsX (addr : Word) (s : State) : Result :=
  readByte (eaAbsX addr s) s (finishEor 3)

/-- `EOR $nnnn,Y` (R129, mode R79). -/
def execEorAbsY (addr : Word) (s : State) : Result :=
  readByte (eaAbsY addr s) s (finishEor 3)

/-- `EOR ($nn,X)` (R129, mode R81). -/
def execEorIndX (d : Byte) (s : State) : Result :=
  withIndX d s fun ea s1 => readByte ea s1 (finishEor 2)

/-- `EOR ($nn),Y` (R129, mode R82). -/
def execEorIndY (d : Byte) (s : State) : Result :=
  withIndY d s fun ea s1 => readByte ea s1 (finishEor 2)

/-- `CMP #nn` (R130, mode R73). -/
def execCmpImm (d : Byte) (s : State) : Result :=
  finishCompare .a 2 d s

/-- `CMP $nn` (R130, mode R74). -/
def execCmpZp (d : Byte) (s : State) : Result :=
  readByte (eaZp d) s (finishCompare .a 2)

/-- `CMP $nn,X` (R130, mode R75). -/
def execCmpZpX (d : Byte) (s : State) : Result :=
  readByte (eaZpX d s) s (finishCompare .a 2)

/-- `CMP $nnnn` (R130, mode R77). -/
def execCmpAbs (addr : Word) (s : State) : Result :=
  readByte addr s (finishCompare .a 3)

/-- `CMP $nnnn,X` (R130, mode R78). -/
def execCmpAbsX (addr : Word) (s : State) : Result :=
  readByte (eaAbsX addr s) s (finishCompare .a 3)

/-- `CMP $nnnn,Y` (R130, mode R79). -/
def execCmpAbsY (addr : Word) (s : State) : Result :=
  readByte (eaAbsY addr s) s (finishCompare .a 3)

/-- `CMP ($nn,X)` (R130, mode R81). -/
def execCmpIndX (d : Byte) (s : State) : Result :=
  withIndX d s fun ea s1 => readByte ea s1 (finishCompare .a 2)

/-- `CMP ($nn),Y` (R130, mode R82). -/
def execCmpIndY (d : Byte) (s : State) : Result :=
  withIndY d s fun ea s1 => readByte ea s1 (finishCompare .a 2)

/-- `CPX #nn` (R131, mode R73). -/
def execCpxImm (d : Byte) (s : State) : Result :=
  finishCompare .x 2 d s

/-- `CPX $nn` (R131, mode R74). -/
def execCpxZp (d : Byte) (s : State) : Result :=
  readByte (eaZp d) s (finishCompare .x 2)

/-- `CPX $nnnn` (R131, mode R77). -/
def execCpxAbs (addr : Word) (s : State) : Result :=
  readByte addr s (finishCompare .x 3)

/-- `CPY #nn` (R132, mode R73). -/
def execCpyImm (d : Byte) (s : State) : Result :=
  finishCompare .y 2 d s

/-- `CPY $nn` (R132, mode R74). -/
def execCpyZp (d : Byte) (s : State) : Result :=
  readByte (eaZp d) s (finishCompare .y 2)

/-- `CPY $nnnn` (R132, mode R77). -/
def execCpyAbs (addr : Word) (s : State) : Result :=
  readByte addr s (finishCompare .y 3)

/-- `BIT $nn` (R133, mode R74). -/
def execBitZp (d : Byte) (s : State) : Result :=
  readByte (eaZp d) s (finishBit 2)

/-- `BIT $nnnn` (R133, mode R77). -/
def execBitAbs (addr : Word) (s : State) : Result :=
  readByte addr s (finishBit 3)

end Sys2Proof.Machine
end

