-- ==== Sys2Proof/Machine/Control.lean ====
section
/-! DEFINITION. Jumps, subroutines, returns, BRK, NOP and the conditional branches (`47_control_flow.md`): one meaning for
each row of the opcode table. In each, `s.pc` is the address of the opcode byte. -/

namespace Sys2Proof.Machine

/-- `JMP $nnnn` (R141, mode R77). -/
def execJmpAbs (addr : Word) (s : State) : Result :=
  .next { s with pc := addr }

/-- `JMP ($nnnn)` (R142, mode R80). -/
def execJmpInd (addr : Word) (s : State) : Result :=
  withIndirect addr s fun ea s1 => .next { s1 with pc := ea }

/-- The pushes of a JSR overwrite its own third byte: the byte lies at `$01 : S` or `$01 : ((S - 1) AND $FF)` and is
`ram`, so that the write lands (`93_implementation_defined.md` U19, log 15). -/
def jsrOverwritesOperand (s : State) : Bool :=
  (decide (s.pc + 2 = stackAddr s.sp) || decide (s.pc + 2 = stackAddr (s.sp - 1))) &&
    decide (s.kindAt (s.pc + 2) = .ram)

/-- `JSR $nnnn` (R143, mode R77). -/
def execJsr (addr : Word) (s : State) : Result :=
  if jsrOverwritesOperand s then .refused (.jsrOverwritesOperand s.pc)
  else pushWord (s.pc + 2) s fun s1 => .next { s1 with pc := addr }

/-- `RTS` (R144). -/
def execRts (s : State) : Result :=
  pullWord s fun ret s1 => .next { s1 with pc := ret + 1 }

/-- `BRK` (R146). -/
def execBrk (s : State) : Result :=
  enterTrap (s.pc + 2) true vecIrq s .next

/-- `RTI` (R145). -/
def execRti (s : State) : Result :=
  returnFromTrap s .next

/-- `NOP` (R147). -/
def execNop (s : State) : Result :=
  .next (s.advance 1)

/-- `BCC label` (R149, mode R83). -/
def execBcc (disp : Int) (s : State) : Result :=
  branchIf (!s.p.c) disp s

/-- `BCS label` (R150, mode R83). -/
def execBcs (disp : Int) (s : State) : Result :=
  branchIf s.p.c disp s

/-- `BEQ label` (R151, mode R83). -/
def execBeq (disp : Int) (s : State) : Result :=
  branchIf s.p.z disp s

/-- `BNE label` (R152, mode R83). -/
def execBne (disp : Int) (s : State) : Result :=
  branchIf (!s.p.z) disp s

/-- `BMI label` (R153, mode R83). -/
def execBmi (disp : Int) (s : State) : Result :=
  branchIf s.p.n disp s

/-- `BPL label` (R154, mode R83). -/
def execBpl (disp : Int) (s : State) : Result :=
  branchIf (!s.p.n) disp s

/-- `BVC label` (R155, mode R83). -/
def execBvc (disp : Int) (s : State) : Result :=
  branchIf (!s.p.v) disp s

/-- `BVS label` (R156, mode R83). -/
def execBvs (disp : Int) (s : State) : Result :=
  branchIf s.p.v disp s

end Sys2Proof.Machine
end

