-- ==== Sys2Proof/Machine/IncDec.lean ====
section
/-! DEFINITION. Increment and decrement of memory (`46_incdec_memory.md`): one meaning for
each row of the opcode table. In each, `s.pc` is the address of the opcode byte. -/

namespace Sys2Proof.Machine

/-- `INC $nn` (R138, mode R74). -/
def execIncZp (d : Byte) (s : State) : Result :=
  countMem 0x01#8 2 (eaZp d) s

/-- `INC $nn,X` (R138, mode R75). -/
def execIncZpX (d : Byte) (s : State) : Result :=
  countMem 0x01#8 2 (eaZpX d s) s

/-- `INC $nnnn` (R138, mode R77). -/
def execIncAbs (addr : Word) (s : State) : Result :=
  countMem 0x01#8 3 addr s

/-- `INC $nnnn,X` (R138, mode R78). -/
def execIncAbsX (addr : Word) (s : State) : Result :=
  countMem 0x01#8 3 (eaAbsX addr s) s

/-- `DEC $nn` (R139, mode R74). -/
def execDecZp (d : Byte) (s : State) : Result :=
  countMem 0xFF#8 2 (eaZp d) s

/-- `DEC $nn,X` (R139, mode R75). -/
def execDecZpX (d : Byte) (s : State) : Result :=
  countMem 0xFF#8 2 (eaZpX d s) s

/-- `DEC $nnnn` (R139, mode R77). -/
def execDecAbs (addr : Word) (s : State) : Result :=
  countMem 0xFF#8 3 addr s

/-- `DEC $nnnn,X` (R139, mode R78). -/
def execDecAbsX (addr : Word) (s : State) : Result :=
  countMem 0xFF#8 3 (eaAbsX addr s) s

end Sys2Proof.Machine
end

