-- ==== Sys2Proof/Machine/LoadStore.lean ====
section
/-! DEFINITION. Loads and stores (`44_load_store.md`): one meaning for
each row of the opcode table. In each, `s.pc` is the address of the opcode byte. -/

namespace Sys2Proof.Machine

/-- `LDA #nn` (R117, mode R73). -/
def execLdaImm (d : Byte) (s : State) : Result :=
  finishLoad .a 2 d s

/-- `LDA $nn` (R117, mode R74). -/
def execLdaZp (d : Byte) (s : State) : Result :=
  readByte (eaZp d) s (finishLoad .a 2)

/-- `LDA $nn,X` (R117, mode R75). -/
def execLdaZpX (d : Byte) (s : State) : Result :=
  readByte (eaZpX d s) s (finishLoad .a 2)

/-- `LDA $nnnn` (R117, mode R77). -/
def execLdaAbs (addr : Word) (s : State) : Result :=
  readByte addr s (finishLoad .a 3)

/-- `LDA $nnnn,X` (R117, mode R78). -/
def execLdaAbsX (addr : Word) (s : State) : Result :=
  readByte (eaAbsX addr s) s (finishLoad .a 3)

/-- `LDA $nnnn,Y` (R117, mode R79). -/
def execLdaAbsY (addr : Word) (s : State) : Result :=
  readByte (eaAbsY addr s) s (finishLoad .a 3)

/-- `LDA ($nn,X)` (R117, mode R81). -/
def execLdaIndX (d : Byte) (s : State) : Result :=
  withIndX d s fun ea s1 => readByte ea s1 (finishLoad .a 2)

/-- `LDA ($nn),Y` (R117, mode R82). -/
def execLdaIndY (d : Byte) (s : State) : Result :=
  withIndY d s fun ea s1 => readByte ea s1 (finishLoad .a 2)

/-- `LDX #nn` (R118, mode R73). -/
def execLdxImm (d : Byte) (s : State) : Result :=
  finishLoad .x 2 d s

/-- `LDX $nn` (R118, mode R74). -/
def execLdxZp (d : Byte) (s : State) : Result :=
  readByte (eaZp d) s (finishLoad .x 2)

/-- `LDX $nn,Y` (R118, mode R76). -/
def execLdxZpY (d : Byte) (s : State) : Result :=
  readByte (eaZpY d s) s (finishLoad .x 2)

/-- `LDX $nnnn` (R118, mode R77). -/
def execLdxAbs (addr : Word) (s : State) : Result :=
  readByte addr s (finishLoad .x 3)

/-- `LDX $nnnn,Y` (R118, mode R79). -/
def execLdxAbsY (addr : Word) (s : State) : Result :=
  readByte (eaAbsY addr s) s (finishLoad .x 3)

/-- `LDY #nn` (R119, mode R73). -/
def execLdyImm (d : Byte) (s : State) : Result :=
  finishLoad .y 2 d s

/-- `LDY $nn` (R119, mode R74). -/
def execLdyZp (d : Byte) (s : State) : Result :=
  readByte (eaZp d) s (finishLoad .y 2)

/-- `LDY $nn,X` (R119, mode R75). -/
def execLdyZpX (d : Byte) (s : State) : Result :=
  readByte (eaZpX d s) s (finishLoad .y 2)

/-- `LDY $nnnn` (R119, mode R77). -/
def execLdyAbs (addr : Word) (s : State) : Result :=
  readByte addr s (finishLoad .y 3)

/-- `LDY $nnnn,X` (R119, mode R78). -/
def execLdyAbsX (addr : Word) (s : State) : Result :=
  readByte (eaAbsX addr s) s (finishLoad .y 3)

/-- `STA $nn` (R120, mode R74). -/
def execStaZp (d : Byte) (s : State) : Result :=
  storeReg .a 2 (eaZp d) s

/-- `STA $nn,X` (R120, mode R75). -/
def execStaZpX (d : Byte) (s : State) : Result :=
  storeReg .a 2 (eaZpX d s) s

/-- `STA $nnnn` (R120, mode R77). -/
def execStaAbs (addr : Word) (s : State) : Result :=
  storeReg .a 3 addr s

/-- `STA $nnnn,X` (R120, mode R78). -/
def execStaAbsX (addr : Word) (s : State) : Result :=
  storeReg .a 3 (eaAbsX addr s) s

/-- `STA $nnnn,Y` (R120, mode R79). -/
def execStaAbsY (addr : Word) (s : State) : Result :=
  storeReg .a 3 (eaAbsY addr s) s

/-- `STA ($nn,X)` (R120, mode R81). -/
def execStaIndX (d : Byte) (s : State) : Result :=
  withIndX d s (storeReg .a 2)

/-- `STA ($nn),Y` (R120, mode R82). -/
def execStaIndY (d : Byte) (s : State) : Result :=
  withIndY d s (storeReg .a 2)

/-- `STX $nn` (R121, mode R74). -/
def execStxZp (d : Byte) (s : State) : Result :=
  storeReg .x 2 (eaZp d) s

/-- `STX $nn,Y` (R121, mode R76). -/
def execStxZpY (d : Byte) (s : State) : Result :=
  storeReg .x 2 (eaZpY d s) s

/-- `STX $nnnn` (R121, mode R77). -/
def execStxAbs (addr : Word) (s : State) : Result :=
  storeReg .x 3 addr s

/-- `STY $nn` (R122, mode R74). -/
def execStyZp (d : Byte) (s : State) : Result :=
  storeReg .y 2 (eaZp d) s

/-- `STY $nn,X` (R122, mode R75). -/
def execStyZpX (d : Byte) (s : State) : Result :=
  storeReg .y 2 (eaZpX d s) s

/-- `STY $nnnn` (R122, mode R77). -/
def execStyAbs (addr : Word) (s : State) : Result :=
  storeReg .y 3 addr s

end Sys2Proof.Machine
end

