-- ==== Sys2Proof/Machine/Shift.lean ====
section
/-! DEFINITION. Shifts and rotates (`43_shift_rotate.md`): one meaning for
each row of the opcode table. In each, `s.pc` is the address of the opcode byte. -/

namespace Sys2Proof.Machine

/-- `ASL A` (R112, mode R72). -/
def execAslA (s : State) : Result :=
  shiftAcc aslOp s

/-- `ASL $nn` (R112, mode R74). -/
def execAslZp (d : Byte) (s : State) : Result :=
  shiftMem aslOp 2 (eaZp d) s

/-- `ASL $nn,X` (R112, mode R75). -/
def execAslZpX (d : Byte) (s : State) : Result :=
  shiftMem aslOp 2 (eaZpX d s) s

/-- `ASL $nnnn` (R112, mode R77). -/
def execAslAbs (addr : Word) (s : State) : Result :=
  shiftMem aslOp 3 addr s

/-- `ASL $nnnn,X` (R112, mode R78). -/
def execAslAbsX (addr : Word) (s : State) : Result :=
  shiftMem aslOp 3 (eaAbsX addr s) s

/-- `LSR A` (R113, mode R72). -/
def execLsrA (s : State) : Result :=
  shiftAcc lsrOp s

/-- `LSR $nn` (R113, mode R74). -/
def execLsrZp (d : Byte) (s : State) : Result :=
  shiftMem lsrOp 2 (eaZp d) s

/-- `LSR $nn,X` (R113, mode R75). -/
def execLsrZpX (d : Byte) (s : State) : Result :=
  shiftMem lsrOp 2 (eaZpX d s) s

/-- `LSR $nnnn` (R113, mode R77). -/
def execLsrAbs (addr : Word) (s : State) : Result :=
  shiftMem lsrOp 3 addr s

/-- `LSR $nnnn,X` (R113, mode R78). -/
def execLsrAbsX (addr : Word) (s : State) : Result :=
  shiftMem lsrOp 3 (eaAbsX addr s) s

/-- `ROL A` (R114, mode R72). -/
def execRolA (s : State) : Result :=
  shiftAcc rolOp s

/-- `ROL $nn` (R114, mode R74). -/
def execRolZp (d : Byte) (s : State) : Result :=
  shiftMem rolOp 2 (eaZp d) s

/-- `ROL $nn,X` (R114, mode R75). -/
def execRolZpX (d : Byte) (s : State) : Result :=
  shiftMem rolOp 2 (eaZpX d s) s

/-- `ROL $nnnn` (R114, mode R77). -/
def execRolAbs (addr : Word) (s : State) : Result :=
  shiftMem rolOp 3 addr s

/-- `ROL $nnnn,X` (R114, mode R78). -/
def execRolAbsX (addr : Word) (s : State) : Result :=
  shiftMem rolOp 3 (eaAbsX addr s) s

/-- `ROR A` (R115, mode R72). -/
def execRorA (s : State) : Result :=
  shiftAcc rorOp s

/-- `ROR $nn` (R115, mode R74). -/
def execRorZp (d : Byte) (s : State) : Result :=
  shiftMem rorOp 2 (eaZp d) s

/-- `ROR $nn,X` (R115, mode R75). -/
def execRorZpX (d : Byte) (s : State) : Result :=
  shiftMem rorOp 2 (eaZpX d s) s

/-- `ROR $nnnn` (R115, mode R77). -/
def execRorAbs (addr : Word) (s : State) : Result :=
  shiftMem rorOp 3 addr s

/-- `ROR $nnnn,X` (R115, mode R78). -/
def execRorAbsX (addr : Word) (s : State) : Result :=
  shiftMem rorOp 3 (eaAbsX addr s) s

end Sys2Proof.Machine
end

