-- ==== Sys2Proof/Machine/Stack.lean ====
section
/-! DEFINITION. Stack operations and flag control (`42_stack_flags.md`): one meaning for
each row of the opcode table. In each, `s.pc` is the address of the opcode byte. -/

namespace Sys2Proof.Machine

/-- `PHA` (R101). -/
def execPha (s : State) : Result :=
  push s.a s fun s1 => .next (s1.advance 1)

/-- `PLA` (R102). -/
def execPla (s : State) : Result :=
  pull s fun v s1 => .next ((s1.loadReg .a v).advance 1)

/-- `PHP` (R103). -/
def execPhp (s : State) : Result :=
  push (pByte true s.p) s fun s1 => .next (s1.advance 1)

/-- `PLP` (R104). -/
def execPlp (s : State) : Result :=
  pull s fun b s1 => .next ({ s1 with p := flagsOfByte b }.advance 1)

/-- `CLC` (R105). -/
def execClc (s : State) : Result :=
  writeFlags { s.p with c := false } s

/-- `SEC` (R106). -/
def execSec (s : State) : Result :=
  writeFlags { s.p with c := true } s

/-- `CLD` (R107). -/
def execCld (s : State) : Result :=
  writeFlags { s.p with d := false } s

/-- `SED` (R108). -/
def execSed (s : State) : Result :=
  writeFlags { s.p with d := true } s

/-- `CLI` (R109). -/
def execCli (s : State) : Result :=
  writeFlags { s.p with i := false } s

/-- `SEI` (R110). -/
def execSei (s : State) : Result :=
  writeFlags { s.p with i := true } s

/-- `CLV` (R111). -/
def execClv (s : State) : Result :=
  writeFlags { s.p with v := false } s

end Sys2Proof.Machine
end

