-- ==== Sys2Proof/Machine/Transfer.lean ====
section
/-! DEFINITION. Register transfers and register increment and decrement (`41_transfer_incdec.md`): one meaning for
each row of the opcode table. In each, `s.pc` is the address of the opcode byte. -/

namespace Sys2Proof.Machine

/-- `TAX` (R90). -/
def execTax (s : State) : Result :=
  transferReg .a .x s

/-- `TAY` (R91). -/
def execTay (s : State) : Result :=
  transferReg .a .y s

/-- `TXA` (R92). -/
def execTxa (s : State) : Result :=
  transferReg .x .a s

/-- `TYA` (R93). -/
def execTya (s : State) : Result :=
  transferReg .y .a s

/-- `TSX` (R94). -/
def execTsx (s : State) : Result :=
  transferReg .s .x s

/-- `TXS` (R95). -/
def execTxs (s : State) : Result :=
  .next ((s.setReg .s s.x).advance 1)

/-- `INX` (R96). -/
def execInx (s : State) : Result :=
  countReg .x 0x01#8 s

/-- `INY` (R97). -/
def execIny (s : State) : Result :=
  countReg .y 0x01#8 s

/-- `DEX` (R98). -/
def execDex (s : State) : Result :=
  countReg .x 0xFF#8 s

/-- `DEY` (R99). -/
def execDey (s : State) : Result :=
  countReg .y 0xFF#8 s

end Sys2Proof.Machine
end

