-- ==== Sys2Proof/Syntax.lean ====
section
/-! DEFINITION. The instructions (`30_encoding.md` R56): one constructor for each of the 151 rows of the opcode table,
that is for each combination of mnemonic and addressing mode, with its operand; and what each row says of itself, its
mnemonic, its mode and its operand (R50 to R52). -/

namespace Sys2Proof

/-- The 56 mnemonics (R56). -/
inductive Mnemonic where
  | tax | tay | txa | tya | tsx | txs | inx | iny | dex | dey
  | pha | pla | php | plp | clc | sec | cld | sed | cli | sei | clv
  | asl | lsr | rol | ror
  | lda | ldx | ldy | sta | stx | sty
  | adc | sbc | and | ora | eor | cmp | cpx | cpy | bit
  | inc | dec
  | jmp | jsr | rts | brk | rti | nop | bcc | bcs | beq | bne | bmi | bpl | bvc | bvs
  deriving DecidableEq, Repr

/-- The thirteen addressing modes (`40_addressing_modes.md` R71 to R83). -/
inductive Mode where
  /-- Implied (R71) -/
  | implied
  /-- Accumulator (R72) -/
  | accumulator
  /-- Immediate (R73) -/
  | immediate
  /-- Zero Page (R74) -/
  | zeroPage
  /-- Zero Page,X (R75) -/
  | zeroPageX
  /-- Zero Page,Y (R76) -/
  | zeroPageY
  /-- Absolute (R77) -/
  | absolute
  /-- Absolute,X (R78) -/
  | absoluteX
  /-- Absolute,Y (R79) -/
  | absoluteY
  /-- Indirect (R80) -/
  | indirect
  /-- (Ind,X) (R81) -/
  | indexedIndirect
  /-- (Ind),Y (R82) -/
  | indirectIndexed
  /-- Relative (R83) -/
  | relative
  deriving DecidableEq, Repr

/-- The operand an instruction carries (R51, R52): none; one byte, an immediate value or a zero-page address; one
16-bit word, an address; or the signed displacement of a branch. -/
inductive Operand where
  | none
  | byte (d : Byte)
  | word (w : Word)
  | disp (d : Int)
  deriving DecidableEq, Repr

/-- The instructions. The suffix of a constructor is its mode: `A` Accumulator, `Imm` Immediate, `Zp` Zero Page, `ZpX`,
`ZpY`, `Abs` Absolute, `AbsX`, `AbsY`, `Ind` Indirect, `IndX` (Ind,X), `IndY` (Ind),Y. A mnemonic of one mode has
none. -/
inductive Instr where
  -- 41_transfer_incdec.md
  /-- `TAX`, `$AA` (R90) -/
  | tax
  /-- `TAY`, `$A8` (R91) -/
  | tay
  /-- `TXA`, `$8A` (R92) -/
  | txa
  /-- `TYA`, `$98` (R93) -/
  | tya
  /-- `TSX`, `$BA` (R94) -/
  | tsx
  /-- `TXS`, `$9A` (R95) -/
  | txs
  /-- `INX`, `$E8` (R96) -/
  | inx
  /-- `INY`, `$C8` (R97) -/
  | iny
  /-- `DEX`, `$CA` (R98) -/
  | dex
  /-- `DEY`, `$88` (R99) -/
  | dey
  -- 42_stack_flags.md
  /-- `PHA`, `$48` (R101) -/
  | pha
  /-- `PLA`, `$68` (R102) -/
  | pla
  /-- `PHP`, `$08` (R103) -/
  | php
  /-- `PLP`, `$28` (R104) -/
  | plp
  /-- `CLC`, `$18` (R105) -/
  | clc
  /-- `SEC`, `$38` (R106) -/
  | sec
  /-- `CLD`, `$D8` (R107) -/
  | cld
  /-- `SED`, `$F8` (R108) -/
  | sed
  /-- `CLI`, `$58` (R109) -/
  | cli
  /-- `SEI`, `$78` (R110) -/
  | sei
  /-- `CLV`, `$B8` (R111) -/
  | clv
  -- 43_shift_rotate.md
  /-- `ASL A`, `$0A` (R112) -/
  | aslA
  /-- `ASL $nn`, `$06` (R112) -/
  | aslZp (d : Byte)
  /-- `ASL $nn,X`, `$16` (R112) -/
  | aslZpX (d : Byte)
  /-- `ASL $nnnn`, `$0E` (R112) -/
  | aslAbs (addr : Word)
  /-- `ASL $nnnn,X`, `$1E` (R112) -/
  | aslAbsX (addr : Word)
  /-- `LSR A`, `$4A` (R113) -/
  | lsrA
  /-- `LSR $nn`, `$46` (R113) -/
  | lsrZp (d : Byte)
  /-- `LSR $nn,X`, `$56` (R113) -/
  | lsrZpX (d : Byte)
  /-- `LSR $nnnn`, `$4E` (R113) -/
  | lsrAbs (addr : Word)
  /-- `LSR $nnnn,X`, `$5E` (R113) -/
  | lsrAbsX (addr : Word)
  /-- `ROL A`, `$2A` (R114) -/
  | rolA
  /-- `ROL $nn`, `$26` (R114) -/
  | rolZp (d : Byte)
  /-- `ROL $nn,X`, `$36` (R114) -/
  | rolZpX (d : Byte)
  /-- `ROL $nnnn`, `$2E` (R114) -/
  | rolAbs (addr : Word)
  /-- `ROL $nnnn,X`, `$3E` (R114) -/
  | rolAbsX (addr : Word)
  /-- `ROR A`, `$6A` (R115) -/
  | rorA
  /-- `ROR $nn`, `$66` (R115) -/
  | rorZp (d : Byte)
  /-- `ROR $nn,X`, `$76` (R115) -/
  | rorZpX (d : Byte)
  /-- `ROR $nnnn`, `$6E` (R115) -/
  | rorAbs (addr : Word)
  /-- `ROR $nnnn,X`, `$7E` (R115) -/
  | rorAbsX (addr : Word)
  -- 44_load_store.md
  /-- `LDA #nn`, `$A9` (R117) -/
  | ldaImm (d : Byte)
  /-- `LDA $nn`, `$A5` (R117) -/
  | ldaZp (d : Byte)
  /-- `LDA $nn,X`, `$B5` (R117) -/
  | ldaZpX (d : Byte)
  /-- `LDA $nnnn`, `$AD` (R117) -/
  | ldaAbs (addr : Word)
  /-- `LDA $nnnn,X`, `$BD` (R117) -/
  | ldaAbsX (addr : Word)
  /-- `LDA $nnnn,Y`, `$B9` (R117) -/
  | ldaAbsY (addr : Word)
  /-- `LDA ($nn,X)`, `$A1` (R117) -/
  | ldaIndX (d : Byte)
  /-- `LDA ($nn),Y`, `$B1` (R117) -/
  | ldaIndY (d : Byte)
  /-- `LDX #nn`, `$A2` (R118) -/
  | ldxImm (d : Byte)
  /-- `LDX $nn`, `$A6` (R118) -/
  | ldxZp (d : Byte)
  /-- `LDX $nn,Y`, `$B6` (R118) -/
  | ldxZpY (d : Byte)
  /-- `LDX $nnnn`, `$AE` (R118) -/
  | ldxAbs (addr : Word)
  /-- `LDX $nnnn,Y`, `$BE` (R118) -/
  | ldxAbsY (addr : Word)
  /-- `LDY #nn`, `$A0` (R119) -/
  | ldyImm (d : Byte)
  /-- `LDY $nn`, `$A4` (R119) -/
  | ldyZp (d : Byte)
  /-- `LDY $nn,X`, `$B4` (R119) -/
  | ldyZpX (d : Byte)
  /-- `LDY $nnnn`, `$AC` (R119) -/
  | ldyAbs (addr : Word)
  /-- `LDY $nnnn,X`, `$BC` (R119) -/
  | ldyAbsX (addr : Word)
  /-- `STA $nn`, `$85` (R120) -/
  | staZp (d : Byte)
  /-- `STA $nn,X`, `$95` (R120) -/
  | staZpX (d : Byte)
  /-- `STA $nnnn`, `$8D` (R120) -/
  | staAbs (addr : Word)
  /-- `STA $nnnn,X`, `$9D` (R120) -/
  | staAbsX (addr : Word)
  /-- `STA $nnnn,Y`, `$99` (R120) -/
  | staAbsY (addr : Word)
  /-- `STA ($nn,X)`, `$81` (R120) -/
  | staIndX (d : Byte)
  /-- `STA ($nn),Y`, `$91` (R120) -/
  | staIndY (d : Byte)
  /-- `STX $nn`, `$86` (R121) -/
  | stxZp (d : Byte)
  /-- `STX $nn,Y`, `$96` (R121) -/
  | stxZpY (d : Byte)
  /-- `STX $nnnn`, `$8E` (R121) -/
  | stxAbs (addr : Word)
  /-- `STY $nn`, `$84` (R122) -/
  | styZp (d : Byte)
  /-- `STY $nn,X`, `$94` (R122) -/
  | styZpX (d : Byte)
  /-- `STY $nnnn`, `$8C` (R122) -/
  | styAbs (addr : Word)
  -- 45_arith_logic_compare.md
  /-- `ADC #nn`, `$69` (R124) -/
  | adcImm (d : Byte)
  /-- `ADC $nn`, `$65` (R124) -/
  | adcZp (d : Byte)
  /-- `ADC $nn,X`, `$75` (R124) -/
  | adcZpX (d : Byte)
  /-- `ADC $nnnn`, `$6D` (R124) -/
  | adcAbs (addr : Word)
  /-- `ADC $nnnn,X`, `$7D` (R124) -/
  | adcAbsX (addr : Word)
  /-- `ADC $nnnn,Y`, `$79` (R124) -/
  | adcAbsY (addr : Word)
  /-- `ADC ($nn,X)`, `$61` (R124) -/
  | adcIndX (d : Byte)
  /-- `ADC ($nn),Y`, `$71` (R124) -/
  | adcIndY (d : Byte)
  /-- `SBC #nn`, `$E9` (R125) -/
  | sbcImm (d : Byte)
  /-- `SBC $nn`, `$E5` (R125) -/
  | sbcZp (d : Byte)
  /-- `SBC $nn,X`, `$F5` (R125) -/
  | sbcZpX (d : Byte)
  /-- `SBC $nnnn`, `$ED` (R125) -/
  | sbcAbs (addr : Word)
  /-- `SBC $nnnn,X`, `$FD` (R125) -/
  | sbcAbsX (addr : Word)
  /-- `SBC $nnnn,Y`, `$F9` (R125) -/
  | sbcAbsY (addr : Word)
  /-- `SBC ($nn,X)`, `$E1` (R125) -/
  | sbcIndX (d : Byte)
  /-- `SBC ($nn),Y`, `$F1` (R125) -/
  | sbcIndY (d : Byte)
  /-- `AND #nn`, `$29` (R127) -/
  | andImm (d : Byte)
  /-- `AND $nn`, `$25` (R127) -/
  | andZp (d : Byte)
  /-- `AND $nn,X`, `$35` (R127) -/
  | andZpX (d : Byte)
  /-- `AND $nnnn`, `$2D` (R127) -/
  | andAbs (addr : Word)
  /-- `AND $nnnn,X`, `$3D` (R127) -/
  | andAbsX (addr : Word)
  /-- `AND $nnnn,Y`, `$39` (R127) -/
  | andAbsY (addr : Word)
  /-- `AND ($nn,X)`, `$21` (R127) -/
  | andIndX (d : Byte)
  /-- `AND ($nn),Y`, `$31` (R127) -/
  | andIndY (d : Byte)
  /-- `ORA #nn`, `$09` (R128) -/
  | oraImm (d : Byte)
  /-- `ORA $nn`, `$05` (R128) -/
  | oraZp (d : Byte)
  /-- `ORA $nn,X`, `$15` (R128) -/
  | oraZpX (d : Byte)
  /-- `ORA $nnnn`, `$0D` (R128) -/
  | oraAbs (addr : Word)
  /-- `ORA $nnnn,X`, `$1D` (R128) -/
  | oraAbsX (addr : Word)
  /-- `ORA $nnnn,Y`, `$19` (R128) -/
  | oraAbsY (addr : Word)
  /-- `ORA ($nn,X)`, `$01` (R128) -/
  | oraIndX (d : Byte)
  /-- `ORA ($nn),Y`, `$11` (R128) -/
  | oraIndY (d : Byte)
  /-- `EOR #nn`, `$49` (R129) -/
  | eorImm (d : Byte)
  /-- `EOR $nn`, `$45` (R129) -/
  | eorZp (d : Byte)
  /-- `EOR $nn,X`, `$55` (R129) -/
  | eorZpX (d : Byte)
  /-- `EOR $nnnn`, `$4D` (R129) -/
  | eorAbs (addr : Word)
  /-- `EOR $nnnn,X`, `$5D` (R129) -/
  | eorAbsX (addr : Word)
  /-- `EOR $nnnn,Y`, `$59` (R129) -/
  | eorAbsY (addr : Word)
  /-- `EOR ($nn,X)`, `$41` (R129) -/
  | eorIndX (d : Byte)
  /-- `EOR ($nn),Y`, `$51` (R129) -/
  | eorIndY (d : Byte)
  /-- `CMP #nn`, `$C9` (R130) -/
  | cmpImm (d : Byte)
  /-- `CMP $nn`, `$C5` (R130) -/
  | cmpZp (d : Byte)
  /-- `CMP $nn,X`, `$D5` (R130) -/
  | cmpZpX (d : Byte)
  /-- `CMP $nnnn`, `$CD` (R130) -/
  | cmpAbs (addr : Word)
  /-- `CMP $nnnn,X`, `$DD` (R130) -/
  | cmpAbsX (addr : Word)
  /-- `CMP $nnnn,Y`, `$D9` (R130) -/
  | cmpAbsY (addr : Word)
  /-- `CMP ($nn,X)`, `$C1` (R130) -/
  | cmpIndX (d : Byte)
  /-- `CMP ($nn),Y`, `$D1` (R130) -/
  | cmpIndY (d : Byte)
  /-- `CPX #nn`, `$E0` (R131) -/
  | cpxImm (d : Byte)
  /-- `CPX $nn`, `$E4` (R131) -/
  | cpxZp (d : Byte)
  /-- `CPX $nnnn`, `$EC` (R131) -/
  | cpxAbs (addr : Word)
  /-- `CPY #nn`, `$C0` (R132) -/
  | cpyImm (d : Byte)
  /-- `CPY $nn`, `$C4` (R132) -/
  | cpyZp (d : Byte)
  /-- `CPY $nnnn`, `$CC` (R132) -/
  | cpyAbs (addr : Word)
  /-- `BIT $nn`, `$24` (R133) -/
  | bitZp (d : Byte)
  /-- `BIT $nnnn`, `$2C` (R133) -/
  | bitAbs (addr : Word)
  -- 46_incdec_memory.md
  /-- `INC $nn`, `$E6` (R138) -/
  | incZp (d : Byte)
  /-- `INC $nn,X`, `$F6` (R138) -/
  | incZpX (d : Byte)
  /-- `INC $nnnn`, `$EE` (R138) -/
  | incAbs (addr : Word)
  /-- `INC $nnnn,X`, `$FE` (R138) -/
  | incAbsX (addr : Word)
  /-- `DEC $nn`, `$C6` (R139) -/
  | decZp (d : Byte)
  /-- `DEC $nn,X`, `$D6` (R139) -/
  | decZpX (d : Byte)
  /-- `DEC $nnnn`, `$CE` (R139) -/
  | decAbs (addr : Word)
  /-- `DEC $nnnn,X`, `$DE` (R139) -/
  | decAbsX (addr : Word)
  -- 47_control_flow.md
  /-- `JMP $nnnn`, `$4C` (R141) -/
  | jmpAbs (addr : Word)
  /-- `JMP ($nnnn)`, `$6C` (R142) -/
  | jmpInd (addr : Word)
  /-- `JSR $nnnn`, `$20` (R143) -/
  | jsr (addr : Word)
  /-- `RTS`, `$60` (R144) -/
  | rts
  /-- `BRK`, `$00` (R146) -/
  | brk
  /-- `RTI`, `$40` (R145) -/
  | rti
  /-- `NOP`, `$EA` (R147) -/
  | nop
  /-- `BCC label`, `$90` (R149) -/
  | bcc (disp : Int)
  /-- `BCS label`, `$B0` (R150) -/
  | bcs (disp : Int)
  /-- `BEQ label`, `$F0` (R151) -/
  | beq (disp : Int)
  /-- `BNE label`, `$D0` (R152) -/
  | bne (disp : Int)
  /-- `BMI label`, `$30` (R153) -/
  | bmi (disp : Int)
  /-- `BPL label`, `$10` (R154) -/
  | bpl (disp : Int)
  /-- `BVC label`, `$50` (R155) -/
  | bvc (disp : Int)
  /-- `BVS label`, `$70` (R156) -/
  | bvs (disp : Int)
  deriving DecidableEq, Repr

/-- The mnemonic of each instruction (R56). -/
def Instr.mnemonic : Instr → Mnemonic
  | .tax => .tax
  | .tay => .tay
  | .txa => .txa
  | .tya => .tya
  | .tsx => .tsx
  | .txs => .txs
  | .inx => .inx
  | .iny => .iny
  | .dex => .dex
  | .dey => .dey
  | .pha => .pha
  | .pla => .pla
  | .php => .php
  | .plp => .plp
  | .clc => .clc
  | .sec => .sec
  | .cld => .cld
  | .sed => .sed
  | .cli => .cli
  | .sei => .sei
  | .clv => .clv
  | .aslA => .asl
  | .aslZp _ => .asl
  | .aslZpX _ => .asl
  | .aslAbs _ => .asl
  | .aslAbsX _ => .asl
  | .lsrA => .lsr
  | .lsrZp _ => .lsr
  | .lsrZpX _ => .lsr
  | .lsrAbs _ => .lsr
  | .lsrAbsX _ => .lsr
  | .rolA => .rol
  | .rolZp _ => .rol
  | .rolZpX _ => .rol
  | .rolAbs _ => .rol
  | .rolAbsX _ => .rol
  | .rorA => .ror
  | .rorZp _ => .ror
  | .rorZpX _ => .ror
  | .rorAbs _ => .ror
  | .rorAbsX _ => .ror
  | .ldaImm _ => .lda
  | .ldaZp _ => .lda
  | .ldaZpX _ => .lda
  | .ldaAbs _ => .lda
  | .ldaAbsX _ => .lda
  | .ldaAbsY _ => .lda
  | .ldaIndX _ => .lda
  | .ldaIndY _ => .lda
  | .ldxImm _ => .ldx
  | .ldxZp _ => .ldx
  | .ldxZpY _ => .ldx
  | .ldxAbs _ => .ldx
  | .ldxAbsY _ => .ldx
  | .ldyImm _ => .ldy
  | .ldyZp _ => .ldy
  | .ldyZpX _ => .ldy
  | .ldyAbs _ => .ldy
  | .ldyAbsX _ => .ldy
  | .staZp _ => .sta
  | .staZpX _ => .sta
  | .staAbs _ => .sta
  | .staAbsX _ => .sta
  | .staAbsY _ => .sta
  | .staIndX _ => .sta
  | .staIndY _ => .sta
  | .stxZp _ => .stx
  | .stxZpY _ => .stx
  | .stxAbs _ => .stx
  | .styZp _ => .sty
  | .styZpX _ => .sty
  | .styAbs _ => .sty
  | .adcImm _ => .adc
  | .adcZp _ => .adc
  | .adcZpX _ => .adc
  | .adcAbs _ => .adc
  | .adcAbsX _ => .adc
  | .adcAbsY _ => .adc
  | .adcIndX _ => .adc
  | .adcIndY _ => .adc
  | .sbcImm _ => .sbc
  | .sbcZp _ => .sbc
  | .sbcZpX _ => .sbc
  | .sbcAbs _ => .sbc
  | .sbcAbsX _ => .sbc
  | .sbcAbsY _ => .sbc
  | .sbcIndX _ => .sbc
  | .sbcIndY _ => .sbc
  | .andImm _ => .and
  | .andZp _ => .and
  | .andZpX _ => .and
  | .andAbs _ => .and
  | .andAbsX _ => .and
  | .andAbsY _ => .and
  | .andIndX _ => .and
  | .andIndY _ => .and
  | .oraImm _ => .ora
  | .oraZp _ => .ora
  | .oraZpX _ => .ora
  | .oraAbs _ => .ora
  | .oraAbsX _ => .ora
  | .oraAbsY _ => .ora
  | .oraIndX _ => .ora
  | .oraIndY _ => .ora
  | .eorImm _ => .eor
  | .eorZp _ => .eor
  | .eorZpX _ => .eor
  | .eorAbs _ => .eor
  | .eorAbsX _ => .eor
  | .eorAbsY _ => .eor
  | .eorIndX _ => .eor
  | .eorIndY _ => .eor
  | .cmpImm _ => .cmp
  | .cmpZp _ => .cmp
  | .cmpZpX _ => .cmp
  | .cmpAbs _ => .cmp
  | .cmpAbsX _ => .cmp
  | .cmpAbsY _ => .cmp
  | .cmpIndX _ => .cmp
  | .cmpIndY _ => .cmp
  | .cpxImm _ => .cpx
  | .cpxZp _ => .cpx
  | .cpxAbs _ => .cpx
  | .cpyImm _ => .cpy
  | .cpyZp _ => .cpy
  | .cpyAbs _ => .cpy
  | .bitZp _ => .bit
  | .bitAbs _ => .bit
  | .incZp _ => .inc
  | .incZpX _ => .inc
  | .incAbs _ => .inc
  | .incAbsX _ => .inc
  | .decZp _ => .dec
  | .decZpX _ => .dec
  | .decAbs _ => .dec
  | .decAbsX _ => .dec
  | .jmpAbs _ => .jmp
  | .jmpInd _ => .jmp
  | .jsr _ => .jsr
  | .rts => .rts
  | .brk => .brk
  | .rti => .rti
  | .nop => .nop
  | .bcc _ => .bcc
  | .bcs _ => .bcs
  | .beq _ => .beq
  | .bne _ => .bne
  | .bmi _ => .bmi
  | .bpl _ => .bpl
  | .bvc _ => .bvc
  | .bvs _ => .bvs

/-- The addressing mode of each instruction (R56). -/
def Instr.mode : Instr → Mode
  | .tax => .implied
  | .tay => .implied
  | .txa => .implied
  | .tya => .implied
  | .tsx => .implied
  | .txs => .implied
  | .inx => .implied
  | .iny => .implied
  | .dex => .implied
  | .dey => .implied
  | .pha => .implied
  | .pla => .implied
  | .php => .implied
  | .plp => .implied
  | .clc => .implied
  | .sec => .implied
  | .cld => .implied
  | .sed => .implied
  | .cli => .implied
  | .sei => .implied
  | .clv => .implied
  | .aslA => .accumulator
  | .aslZp _ => .zeroPage
  | .aslZpX _ => .zeroPageX
  | .aslAbs _ => .absolute
  | .aslAbsX _ => .absoluteX
  | .lsrA => .accumulator
  | .lsrZp _ => .zeroPage
  | .lsrZpX _ => .zeroPageX
  | .lsrAbs _ => .absolute
  | .lsrAbsX _ => .absoluteX
  | .rolA => .accumulator
  | .rolZp _ => .zeroPage
  | .rolZpX _ => .zeroPageX
  | .rolAbs _ => .absolute
  | .rolAbsX _ => .absoluteX
  | .rorA => .accumulator
  | .rorZp _ => .zeroPage
  | .rorZpX _ => .zeroPageX
  | .rorAbs _ => .absolute
  | .rorAbsX _ => .absoluteX
  | .ldaImm _ => .immediate
  | .ldaZp _ => .zeroPage
  | .ldaZpX _ => .zeroPageX
  | .ldaAbs _ => .absolute
  | .ldaAbsX _ => .absoluteX
  | .ldaAbsY _ => .absoluteY
  | .ldaIndX _ => .indexedIndirect
  | .ldaIndY _ => .indirectIndexed
  | .ldxImm _ => .immediate
  | .ldxZp _ => .zeroPage
  | .ldxZpY _ => .zeroPageY
  | .ldxAbs _ => .absolute
  | .ldxAbsY _ => .absoluteY
  | .ldyImm _ => .immediate
  | .ldyZp _ => .zeroPage
  | .ldyZpX _ => .zeroPageX
  | .ldyAbs _ => .absolute
  | .ldyAbsX _ => .absoluteX
  | .staZp _ => .zeroPage
  | .staZpX _ => .zeroPageX
  | .staAbs _ => .absolute
  | .staAbsX _ => .absoluteX
  | .staAbsY _ => .absoluteY
  | .staIndX _ => .indexedIndirect
  | .staIndY _ => .indirectIndexed
  | .stxZp _ => .zeroPage
  | .stxZpY _ => .zeroPageY
  | .stxAbs _ => .absolute
  | .styZp _ => .zeroPage
  | .styZpX _ => .zeroPageX
  | .styAbs _ => .absolute
  | .adcImm _ => .immediate
  | .adcZp _ => .zeroPage
  | .adcZpX _ => .zeroPageX
  | .adcAbs _ => .absolute
  | .adcAbsX _ => .absoluteX
  | .adcAbsY _ => .absoluteY
  | .adcIndX _ => .indexedIndirect
  | .adcIndY _ => .indirectIndexed
  | .sbcImm _ => .immediate
  | .sbcZp _ => .zeroPage
  | .sbcZpX _ => .zeroPageX
  | .sbcAbs _ => .absolute
  | .sbcAbsX _ => .absoluteX
  | .sbcAbsY _ => .absoluteY
  | .sbcIndX _ => .indexedIndirect
  | .sbcIndY _ => .indirectIndexed
  | .andImm _ => .immediate
  | .andZp _ => .zeroPage
  | .andZpX _ => .zeroPageX
  | .andAbs _ => .absolute
  | .andAbsX _ => .absoluteX
  | .andAbsY _ => .absoluteY
  | .andIndX _ => .indexedIndirect
  | .andIndY _ => .indirectIndexed
  | .oraImm _ => .immediate
  | .oraZp _ => .zeroPage
  | .oraZpX _ => .zeroPageX
  | .oraAbs _ => .absolute
  | .oraAbsX _ => .absoluteX
  | .oraAbsY _ => .absoluteY
  | .oraIndX _ => .indexedIndirect
  | .oraIndY _ => .indirectIndexed
  | .eorImm _ => .immediate
  | .eorZp _ => .zeroPage
  | .eorZpX _ => .zeroPageX
  | .eorAbs _ => .absolute
  | .eorAbsX _ => .absoluteX
  | .eorAbsY _ => .absoluteY
  | .eorIndX _ => .indexedIndirect
  | .eorIndY _ => .indirectIndexed
  | .cmpImm _ => .immediate
  | .cmpZp _ => .zeroPage
  | .cmpZpX _ => .zeroPageX
  | .cmpAbs _ => .absolute
  | .cmpAbsX _ => .absoluteX
  | .cmpAbsY _ => .absoluteY
  | .cmpIndX _ => .indexedIndirect
  | .cmpIndY _ => .indirectIndexed
  | .cpxImm _ => .immediate
  | .cpxZp _ => .zeroPage
  | .cpxAbs _ => .absolute
  | .cpyImm _ => .immediate
  | .cpyZp _ => .zeroPage
  | .cpyAbs _ => .absolute
  | .bitZp _ => .zeroPage
  | .bitAbs _ => .absolute
  | .incZp _ => .zeroPage
  | .incZpX _ => .zeroPageX
  | .incAbs _ => .absolute
  | .incAbsX _ => .absoluteX
  | .decZp _ => .zeroPage
  | .decZpX _ => .zeroPageX
  | .decAbs _ => .absolute
  | .decAbsX _ => .absoluteX
  | .jmpAbs _ => .absolute
  | .jmpInd _ => .indirect
  | .jsr _ => .absolute
  | .rts => .implied
  | .brk => .implied
  | .rti => .implied
  | .nop => .implied
  | .bcc _ => .relative
  | .bcs _ => .relative
  | .beq _ => .relative
  | .bne _ => .relative
  | .bmi _ => .relative
  | .bpl _ => .relative
  | .bvc _ => .relative
  | .bvs _ => .relative

/-- The operand of each instruction (R52). -/
def Instr.operand : Instr → Operand
  | .tax => .none
  | .tay => .none
  | .txa => .none
  | .tya => .none
  | .tsx => .none
  | .txs => .none
  | .inx => .none
  | .iny => .none
  | .dex => .none
  | .dey => .none
  | .pha => .none
  | .pla => .none
  | .php => .none
  | .plp => .none
  | .clc => .none
  | .sec => .none
  | .cld => .none
  | .sed => .none
  | .cli => .none
  | .sei => .none
  | .clv => .none
  | .aslA => .none
  | .aslZp d => .byte d
  | .aslZpX d => .byte d
  | .aslAbs addr => .word addr
  | .aslAbsX addr => .word addr
  | .lsrA => .none
  | .lsrZp d => .byte d
  | .lsrZpX d => .byte d
  | .lsrAbs addr => .word addr
  | .lsrAbsX addr => .word addr
  | .rolA => .none
  | .rolZp d => .byte d
  | .rolZpX d => .byte d
  | .rolAbs addr => .word addr
  | .rolAbsX addr => .word addr
  | .rorA => .none
  | .rorZp d => .byte d
  | .rorZpX d => .byte d
  | .rorAbs addr => .word addr
  | .rorAbsX addr => .word addr
  | .ldaImm d => .byte d
  | .ldaZp d => .byte d
  | .ldaZpX d => .byte d
  | .ldaAbs addr => .word addr
  | .ldaAbsX addr => .word addr
  | .ldaAbsY addr => .word addr
  | .ldaIndX d => .byte d
  | .ldaIndY d => .byte d
  | .ldxImm d => .byte d
  | .ldxZp d => .byte d
  | .ldxZpY d => .byte d
  | .ldxAbs addr => .word addr
  | .ldxAbsY addr => .word addr
  | .ldyImm d => .byte d
  | .ldyZp d => .byte d
  | .ldyZpX d => .byte d
  | .ldyAbs addr => .word addr
  | .ldyAbsX addr => .word addr
  | .staZp d => .byte d
  | .staZpX d => .byte d
  | .staAbs addr => .word addr
  | .staAbsX addr => .word addr
  | .staAbsY addr => .word addr
  | .staIndX d => .byte d
  | .staIndY d => .byte d
  | .stxZp d => .byte d
  | .stxZpY d => .byte d
  | .stxAbs addr => .word addr
  | .styZp d => .byte d
  | .styZpX d => .byte d
  | .styAbs addr => .word addr
  | .adcImm d => .byte d
  | .adcZp d => .byte d
  | .adcZpX d => .byte d
  | .adcAbs addr => .word addr
  | .adcAbsX addr => .word addr
  | .adcAbsY addr => .word addr
  | .adcIndX d => .byte d
  | .adcIndY d => .byte d
  | .sbcImm d => .byte d
  | .sbcZp d => .byte d
  | .sbcZpX d => .byte d
  | .sbcAbs addr => .word addr
  | .sbcAbsX addr => .word addr
  | .sbcAbsY addr => .word addr
  | .sbcIndX d => .byte d
  | .sbcIndY d => .byte d
  | .andImm d => .byte d
  | .andZp d => .byte d
  | .andZpX d => .byte d
  | .andAbs addr => .word addr
  | .andAbsX addr => .word addr
  | .andAbsY addr => .word addr
  | .andIndX d => .byte d
  | .andIndY d => .byte d
  | .oraImm d => .byte d
  | .oraZp d => .byte d
  | .oraZpX d => .byte d
  | .oraAbs addr => .word addr
  | .oraAbsX addr => .word addr
  | .oraAbsY addr => .word addr
  | .oraIndX d => .byte d
  | .oraIndY d => .byte d
  | .eorImm d => .byte d
  | .eorZp d => .byte d
  | .eorZpX d => .byte d
  | .eorAbs addr => .word addr
  | .eorAbsX addr => .word addr
  | .eorAbsY addr => .word addr
  | .eorIndX d => .byte d
  | .eorIndY d => .byte d
  | .cmpImm d => .byte d
  | .cmpZp d => .byte d
  | .cmpZpX d => .byte d
  | .cmpAbs addr => .word addr
  | .cmpAbsX addr => .word addr
  | .cmpAbsY addr => .word addr
  | .cmpIndX d => .byte d
  | .cmpIndY d => .byte d
  | .cpxImm d => .byte d
  | .cpxZp d => .byte d
  | .cpxAbs addr => .word addr
  | .cpyImm d => .byte d
  | .cpyZp d => .byte d
  | .cpyAbs addr => .word addr
  | .bitZp d => .byte d
  | .bitAbs addr => .word addr
  | .incZp d => .byte d
  | .incZpX d => .byte d
  | .incAbs addr => .word addr
  | .incAbsX addr => .word addr
  | .decZp d => .byte d
  | .decZpX d => .byte d
  | .decAbs addr => .word addr
  | .decAbsX addr => .word addr
  | .jmpAbs addr => .word addr
  | .jmpInd addr => .word addr
  | .jsr addr => .word addr
  | .rts => .none
  | .brk => .none
  | .rti => .none
  | .nop => .none
  | .bcc disp => .disp disp
  | .bcs disp => .disp disp
  | .beq disp => .disp disp
  | .bne disp => .disp disp
  | .bmi disp => .disp disp
  | .bpl disp => .disp disp
  | .bvc disp => .disp disp
  | .bvs disp => .disp disp

/-- The length in bytes of the instructions of each mode (R50). -/
def Mode.length : Mode → Nat
  | .implied => 1
  | .accumulator => 1
  | .immediate => 2
  | .zeroPage => 2
  | .zeroPageX => 2
  | .zeroPageY => 2
  | .absolute => 3
  | .absoluteX => 3
  | .absoluteY => 3
  | .indirect => 3
  | .indexedIndirect => 2
  | .indirectIndexed => 2
  | .relative => 2

end Sys2Proof
end

