-- ==== Sys2Proof/Machine/Events.lean ====
section
/-! DEFINITION. The asynchronous events IRQ, NMI and RESET at an instruction boundary (`60_exceptions.md` R160 to
R169). -/

namespace Sys2Proof.Machine

/-- What a boundary leads to: no event, or one of the three asynchronous ones (R160). -/
inductive Event where
  | quiet | reset | nmi | irq
  deriving DecidableEq, Repr

/-- The boundary samples the lines (`70_reset_and_hazards.md` R191): IRQ as a level that is not latched (R164), NMI as
an edge against the sample before, which sets `nmi_pending` (R163), RESET as a level that is not latched (DESIGN
CHOICE, unsafe, log 26). When the inputs are used up nothing is asserted. -/
def sampleLines (s : State) : State :=
  let now := s.inputs.headD Lines.released
  { s with
    inputs := s.inputs.tail
    lines := now
    nmiPending := s.nmiPending || (now.nmi && !s.lines.nmi) }

/-- The event taken at a boundary, after sampling: RESET, then NMI, then IRQ (R166); IRQ only while `i_poll = 0`
(R164). RESET is taken at every boundary whose sample asserts it, also when the sample before did: R160 says only "the
reset input", and that it is a level is the model's (DESIGN CHOICE, unsafe, log 26). -/
def pendingEvent (s : State) : Event :=
  if s.lines.reset then .reset
  else if s.nmiPending then .nmi
  else if s.lines.irq && !s.iPoll then .irq
  else .quiet

/-- At the boundary after an event the mask is `P.I` itself (R164; log 13). -/
def State.settleMask (s : State) : State := { s with iPoll := s.p.i }

/-- NMI is taken: the latch is cleared and the entry sequence runs with `ret = pc`, `b = 0` and the NMI vector (R163). -/
def takeNmi (s : State) : Result :=
  enterTrap s.pc false vecNmi { s with nmiPending := false } fun t => .next t.settleMask

/-- IRQ is taken: the entry sequence with `ret = pc`, `b = 0` and the IRQ vector (R164). -/
def takeIrq (s : State) : Result :=
  enterTrap s.pc false vecIrq s fun t => .next t.settleMask

/-- RESET is taken (R165). -/
def takeReset (s : State) : Result :=
  enterReset s fun t => .next t.settleMask

/-- The mnemonics whose effect on the masking of IRQ is one instruction late (R164). -/
def delaysMask : Mnemonic → Bool
  | .cli => true
  | .sei => true
  | .plp => true
  | _ => false

/-- `i_poll` at the boundary after an instruction: the `I` before it for CLI, SEI and PLP, else the `I` it leaves
(R164). -/
def nextPoll (i : Instr) (before after : Bool) : Bool := if delaysMask i.mnemonic then before else after

/-- The end of an instruction: its effect, with `i_poll` for the boundary that follows (R164). -/
def finishInstr (i : Instr) (before : State) (r : Result) : Result :=
  match r with
  | .next t => .next { t with iPoll := nextPoll i before.p.i t.p.i }
  | .fault f => .fault f
  | .refused e => .refused e

end Sys2Proof.Machine
end

