-- ==== Sys2Proof/WellFormed.lean ====
section
/-! DEFINITION. Which instructions can be encoded. Bytes and words fit by their type; the one check is that a branch
displacement fits a signed byte (`30_encoding.md` R52, R62; `47_control_flow.md` R158). -/

namespace Sys2Proof

/-- A displacement is -128 to +127 (R52). -/
def Operand.wf : Operand → Bool
  | .none => true
  | .byte _ => true
  | .word _ => true
  | .disp d => decide (-128 ≤ d) && decide (d ≤ 127)

/-- The instruction can be encoded: its operand fits the encoding. -/
def Instr.wf (i : Instr) : Bool := i.operand.wf

/-- `Instr.wf` as a proposition. -/
abbrev WellFormed (i : Instr) : Prop := i.wf = true

end Sys2Proof
end

