-- ==== Sys2Proof/Decode.lean ====
section
/-! DEFINITION. The decoder (`30_encoding.md` R55 to R57), total on any bytes and rejecting by name, and the encoder.
The opcode byte alone decides the instruction, its mode and so its length (R50). -/

namespace Sys2Proof

/-- The three formats (R51), each with the instruction it makes of its operand bytes. -/
inductive Form where
  /-- `F1`: the opcode alone -/
  | one (i : Instr)
  /-- `F2`: one operand byte -/
  | two (mk : Byte → Instr)
  /-- `F3`: two operand bytes, low first, as one word -/
  | three (mk : Word → Instr)

/-- Why bytes do not decode. -/
inductive DecodeError where
  /-- there is no byte at all -/
  | noBytes
  /-- the opcode is one of the 105 undefined bytes (R57) -/
  | undefinedOpcode (byte : Byte)
  /-- the bytes end before the operand does -/
  | truncated (byte : Byte)
  deriving DecidableEq, Repr

/-- A branch with the displacement a byte spells (R52). -/
def branchForm (mk : Int → Instr) : Form := .two fun d => mk (Machine.signed8 d)

/-- Row 0x of the opcode map (R56). -/
def opcodeRow0 : List (Nat × Form) :=
  [(0x00, .one .brk),
    (0x01, .two .oraIndX),
    (0x05, .two .oraZp),
    (0x06, .two .aslZp),
    (0x08, .one .php),
    (0x09, .two .oraImm),
    (0x0A, .one .aslA),
    (0x0D, .three .oraAbs),
    (0x0E, .three .aslAbs)]

/-- Row 1x of the opcode map (R56). -/
def opcodeRow1 : List (Nat × Form) :=
  [(0x10, branchForm .bpl),
    (0x11, .two .oraIndY),
    (0x15, .two .oraZpX),
    (0x16, .two .aslZpX),
    (0x18, .one .clc),
    (0x19, .three .oraAbsY),
    (0x1D, .three .oraAbsX),
    (0x1E, .three .aslAbsX)]

/-- Row 2x of the opcode map (R56). -/
def opcodeRow2 : List (Nat × Form) :=
  [(0x20, .three .jsr),
    (0x21, .two .andIndX),
    (0x24, .two .bitZp),
    (0x25, .two .andZp),
    (0x26, .two .rolZp),
    (0x28, .one .plp),
    (0x29, .two .andImm),
    (0x2A, .one .rolA),
    (0x2C, .three .bitAbs),
    (0x2D, .three .andAbs),
    (0x2E, .three .rolAbs)]

/-- Row 3x of the opcode map (R56). -/
def opcodeRow3 : List (Nat × Form) :=
  [(0x30, branchForm .bmi),
    (0x31, .two .andIndY),
    (0x35, .two .andZpX),
    (0x36, .two .rolZpX),
    (0x38, .one .sec),
    (0x39, .three .andAbsY),
    (0x3D, .three .andAbsX),
    (0x3E, .three .rolAbsX)]

/-- Row 4x of the opcode map (R56). -/
def opcodeRow4 : List (Nat × Form) :=
  [(0x40, .one .rti),
    (0x41, .two .eorIndX),
    (0x45, .two .eorZp),
    (0x46, .two .lsrZp),
    (0x48, .one .pha),
    (0x49, .two .eorImm),
    (0x4A, .one .lsrA),
    (0x4C, .three .jmpAbs),
    (0x4D, .three .eorAbs),
    (0x4E, .three .lsrAbs)]

/-- Row 5x of the opcode map (R56). -/
def opcodeRow5 : List (Nat × Form) :=
  [(0x50, branchForm .bvc),
    (0x51, .two .eorIndY),
    (0x55, .two .eorZpX),
    (0x56, .two .lsrZpX),
    (0x58, .one .cli),
    (0x59, .three .eorAbsY),
    (0x5D, .three .eorAbsX),
    (0x5E, .three .lsrAbsX)]

/-- Row 6x of the opcode map (R56). -/
def opcodeRow6 : List (Nat × Form) :=
  [(0x60, .one .rts),
    (0x61, .two .adcIndX),
    (0x65, .two .adcZp),
    (0x66, .two .rorZp),
    (0x68, .one .pla),
    (0x69, .two .adcImm),
    (0x6A, .one .rorA),
    (0x6C, .three .jmpInd),
    (0x6D, .three .adcAbs),
    (0x6E, .three .rorAbs)]

/-- Row 7x of the opcode map (R56). -/
def opcodeRow7 : List (Nat × Form) :=
  [(0x70, branchForm .bvs),
    (0x71, .two .adcIndY),
    (0x75, .two .adcZpX),
    (0x76, .two .rorZpX),
    (0x78, .one .sei),
    (0x79, .three .adcAbsY),
    (0x7D, .three .adcAbsX),
    (0x7E, .three .rorAbsX)]

/-- Row 8x of the opcode map (R56). -/
def opcodeRow8 : List (Nat × Form) :=
  [(0x81, .two .staIndX),
    (0x84, .two .styZp),
    (0x85, .two .staZp),
    (0x86, .two .stxZp),
    (0x88, .one .dey),
    (0x8A, .one .txa),
    (0x8C, .three .styAbs),
    (0x8D, .three .staAbs),
    (0x8E, .three .stxAbs)]

/-- Row 9x of the opcode map (R56). -/
def opcodeRow9 : List (Nat × Form) :=
  [(0x90, branchForm .bcc),
    (0x91, .two .staIndY),
    (0x94, .two .styZpX),
    (0x95, .two .staZpX),
    (0x96, .two .stxZpY),
    (0x98, .one .tya),
    (0x99, .three .staAbsY),
    (0x9A, .one .txs),
    (0x9D, .three .staAbsX)]

/-- Row Ax of the opcode map (R56). -/
def opcodeRowA : List (Nat × Form) :=
  [(0xA0, .two .ldyImm),
    (0xA1, .two .ldaIndX),
    (0xA2, .two .ldxImm),
    (0xA4, .two .ldyZp),
    (0xA5, .two .ldaZp),
    (0xA6, .two .ldxZp),
    (0xA8, .one .tay),
    (0xA9, .two .ldaImm),
    (0xAA, .one .tax),
    (0xAC, .three .ldyAbs),
    (0xAD, .three .ldaAbs),
    (0xAE, .three .ldxAbs)]

/-- Row Bx of the opcode map (R56). -/
def opcodeRowB : List (Nat × Form) :=
  [(0xB0, branchForm .bcs),
    (0xB1, .two .ldaIndY),
    (0xB4, .two .ldyZpX),
    (0xB5, .two .ldaZpX),
    (0xB6, .two .ldxZpY),
    (0xB8, .one .clv),
    (0xB9, .three .ldaAbsY),
    (0xBA, .one .tsx),
    (0xBC, .three .ldyAbsX),
    (0xBD, .three .ldaAbsX),
    (0xBE, .three .ldxAbsY)]

/-- Row Cx of the opcode map (R56). -/
def opcodeRowC : List (Nat × Form) :=
  [(0xC0, .two .cpyImm),
    (0xC1, .two .cmpIndX),
    (0xC4, .two .cpyZp),
    (0xC5, .two .cmpZp),
    (0xC6, .two .decZp),
    (0xC8, .one .iny),
    (0xC9, .two .cmpImm),
    (0xCA, .one .dex),
    (0xCC, .three .cpyAbs),
    (0xCD, .three .cmpAbs),
    (0xCE, .three .decAbs)]

/-- Row Dx of the opcode map (R56). -/
def opcodeRowD : List (Nat × Form) :=
  [(0xD0, branchForm .bne),
    (0xD1, .two .cmpIndY),
    (0xD5, .two .cmpZpX),
    (0xD6, .two .decZpX),
    (0xD8, .one .cld),
    (0xD9, .three .cmpAbsY),
    (0xDD, .three .cmpAbsX),
    (0xDE, .three .decAbsX)]

/-- Row Ex of the opcode map (R56). -/
def opcodeRowE : List (Nat × Form) :=
  [(0xE0, .two .cpxImm),
    (0xE1, .two .sbcIndX),
    (0xE4, .two .cpxZp),
    (0xE5, .two .sbcZp),
    (0xE6, .two .incZp),
    (0xE8, .one .inx),
    (0xE9, .two .sbcImm),
    (0xEA, .one .nop),
    (0xEC, .three .cpxAbs),
    (0xED, .three .sbcAbs),
    (0xEE, .three .incAbs)]

/-- Row Fx of the opcode map (R56). -/
def opcodeRowF : List (Nat × Form) :=
  [(0xF0, branchForm .beq),
    (0xF1, .two .sbcIndY),
    (0xF5, .two .sbcZpX),
    (0xF6, .two .incZpX),
    (0xF8, .one .sed),
    (0xF9, .three .sbcAbsY),
    (0xFD, .three .sbcAbsX),
    (0xFE, .three .incAbsX)]

/-- The 151 defined opcodes (R56). -/
def opcodeMap : List (Nat × Form) :=
  opcodeRow0 ++ opcodeRow1 ++ opcodeRow2 ++ opcodeRow3 ++ opcodeRow4 ++ opcodeRow5 ++ opcodeRow6 ++ opcodeRow7 ++
    opcodeRow8 ++ opcodeRow9 ++ opcodeRowA ++ opcodeRowB ++ opcodeRowC ++ opcodeRowD ++ opcodeRowE ++ opcodeRowF

/-- The entry of an opcode in a list of them. -/
def findForm (op : Nat) : List (Nat × Form) → Option Form
  | [] => none
  | (n, f) :: rest => if op = n then some f else findForm op rest

/-- What an opcode byte selects; `none` for the 105 undefined bytes (R55, R57). -/
def opcodeForm (op : Byte) : Option Form := findForm op.toNat opcodeMap

/-- The instruction at the front of a list of bytes, with the bytes that are left (R55). -/
def decode : List Byte → Except DecodeError (Instr × List Byte)
  | [] => .error .noBytes
  | op :: rest =>
    match opcodeForm op with
    | none => .error (.undefinedOpcode op)
    | some (.one i) => .ok (i, rest)
    | some (.two mk) =>
      match rest with
      | d :: rest' => .ok (mk d, rest')
      | [] => .error (.truncated op)
    | some (.three mk) =>
      match rest with
      | l :: h :: rest' => .ok (mk (Machine.wordOf h l), rest')
      | [_] => .error (.truncated op)
      | [] => .error (.truncated op)

/-- The opcode byte of each instruction (R56). -/
def Instr.opcode : Instr → Byte
  | .tax => 0xAA#8
  | .tay => 0xA8#8
  | .txa => 0x8A#8
  | .tya => 0x98#8
  | .tsx => 0xBA#8
  | .txs => 0x9A#8
  | .inx => 0xE8#8
  | .iny => 0xC8#8
  | .dex => 0xCA#8
  | .dey => 0x88#8
  | .pha => 0x48#8
  | .pla => 0x68#8
  | .php => 0x08#8
  | .plp => 0x28#8
  | .clc => 0x18#8
  | .sec => 0x38#8
  | .cld => 0xD8#8
  | .sed => 0xF8#8
  | .cli => 0x58#8
  | .sei => 0x78#8
  | .clv => 0xB8#8
  | .aslA => 0x0A#8
  | .aslZp _ => 0x06#8
  | .aslZpX _ => 0x16#8
  | .aslAbs _ => 0x0E#8
  | .aslAbsX _ => 0x1E#8
  | .lsrA => 0x4A#8
  | .lsrZp _ => 0x46#8
  | .lsrZpX _ => 0x56#8
  | .lsrAbs _ => 0x4E#8
  | .lsrAbsX _ => 0x5E#8
  | .rolA => 0x2A#8
  | .rolZp _ => 0x26#8
  | .rolZpX _ => 0x36#8
  | .rolAbs _ => 0x2E#8
  | .rolAbsX _ => 0x3E#8
  | .rorA => 0x6A#8
  | .rorZp _ => 0x66#8
  | .rorZpX _ => 0x76#8
  | .rorAbs _ => 0x6E#8
  | .rorAbsX _ => 0x7E#8
  | .ldaImm _ => 0xA9#8
  | .ldaZp _ => 0xA5#8
  | .ldaZpX _ => 0xB5#8
  | .ldaAbs _ => 0xAD#8
  | .ldaAbsX _ => 0xBD#8
  | .ldaAbsY _ => 0xB9#8
  | .ldaIndX _ => 0xA1#8
  | .ldaIndY _ => 0xB1#8
  | .ldxImm _ => 0xA2#8
  | .ldxZp _ => 0xA6#8
  | .ldxZpY _ => 0xB6#8
  | .ldxAbs _ => 0xAE#8
  | .ldxAbsY _ => 0xBE#8
  | .ldyImm _ => 0xA0#8
  | .ldyZp _ => 0xA4#8
  | .ldyZpX _ => 0xB4#8
  | .ldyAbs _ => 0xAC#8
  | .ldyAbsX _ => 0xBC#8
  | .staZp _ => 0x85#8
  | .staZpX _ => 0x95#8
  | .staAbs _ => 0x8D#8
  | .staAbsX _ => 0x9D#8
  | .staAbsY _ => 0x99#8
  | .staIndX _ => 0x81#8
  | .staIndY _ => 0x91#8
  | .stxZp _ => 0x86#8
  | .stxZpY _ => 0x96#8
  | .stxAbs _ => 0x8E#8
  | .styZp _ => 0x84#8
  | .styZpX _ => 0x94#8
  | .styAbs _ => 0x8C#8
  | .adcImm _ => 0x69#8
  | .adcZp _ => 0x65#8
  | .adcZpX _ => 0x75#8
  | .adcAbs _ => 0x6D#8
  | .adcAbsX _ => 0x7D#8
  | .adcAbsY _ => 0x79#8
  | .adcIndX _ => 0x61#8
  | .adcIndY _ => 0x71#8
  | .sbcImm _ => 0xE9#8
  | .sbcZp _ => 0xE5#8
  | .sbcZpX _ => 0xF5#8
  | .sbcAbs _ => 0xED#8
  | .sbcAbsX _ => 0xFD#8
  | .sbcAbsY _ => 0xF9#8
  | .sbcIndX _ => 0xE1#8
  | .sbcIndY _ => 0xF1#8
  | .andImm _ => 0x29#8
  | .andZp _ => 0x25#8
  | .andZpX _ => 0x35#8
  | .andAbs _ => 0x2D#8
  | .andAbsX _ => 0x3D#8
  | .andAbsY _ => 0x39#8
  | .andIndX _ => 0x21#8
  | .andIndY _ => 0x31#8
  | .oraImm _ => 0x09#8
  | .oraZp _ => 0x05#8
  | .oraZpX _ => 0x15#8
  | .oraAbs _ => 0x0D#8
  | .oraAbsX _ => 0x1D#8
  | .oraAbsY _ => 0x19#8
  | .oraIndX _ => 0x01#8
  | .oraIndY _ => 0x11#8
  | .eorImm _ => 0x49#8
  | .eorZp _ => 0x45#8
  | .eorZpX _ => 0x55#8
  | .eorAbs _ => 0x4D#8
  | .eorAbsX _ => 0x5D#8
  | .eorAbsY _ => 0x59#8
  | .eorIndX _ => 0x41#8
  | .eorIndY _ => 0x51#8
  | .cmpImm _ => 0xC9#8
  | .cmpZp _ => 0xC5#8
  | .cmpZpX _ => 0xD5#8
  | .cmpAbs _ => 0xCD#8
  | .cmpAbsX _ => 0xDD#8
  | .cmpAbsY _ => 0xD9#8
  | .cmpIndX _ => 0xC1#8
  | .cmpIndY _ => 0xD1#8
  | .cpxImm _ => 0xE0#8
  | .cpxZp _ => 0xE4#8
  | .cpxAbs _ => 0xEC#8
  | .cpyImm _ => 0xC0#8
  | .cpyZp _ => 0xC4#8
  | .cpyAbs _ => 0xCC#8
  | .bitZp _ => 0x24#8
  | .bitAbs _ => 0x2C#8
  | .incZp _ => 0xE6#8
  | .incZpX _ => 0xF6#8
  | .incAbs _ => 0xEE#8
  | .incAbsX _ => 0xFE#8
  | .decZp _ => 0xC6#8
  | .decZpX _ => 0xD6#8
  | .decAbs _ => 0xCE#8
  | .decAbsX _ => 0xDE#8
  | .jmpAbs _ => 0x4C#8
  | .jmpInd _ => 0x6C#8
  | .jsr _ => 0x20#8
  | .rts => 0x60#8
  | .brk => 0x00#8
  | .rti => 0x40#8
  | .nop => 0xEA#8
  | .bcc _ => 0x90#8
  | .bcs _ => 0xB0#8
  | .beq _ => 0xF0#8
  | .bne _ => 0xD0#8
  | .bmi _ => 0x30#8
  | .bpl _ => 0x10#8
  | .bvc _ => 0x50#8
  | .bvs _ => 0x70#8

/-- The operand bytes in memory order, a word low byte first (R51, `20_memory.md` R34). -/
def Operand.bytes : Operand → List Byte
  | .none => []
  | .byte d => [d]
  | .word w => [Machine.loByte w, Machine.hiByte w]
  | .disp d => [Machine.byteOfInt d]

/-- The bytes of an instruction in memory order (R51). -/
def encode (i : Instr) : List Byte := i.opcode :: i.operand.bytes

/-- The instruction the decoder reads from an instruction whose bits, first byte least significant, are `w`; bits from
`nbits` on are 0. -/
def decodeTableWord (nbits w : Nat) : Option Instr :=
  let v := w % 2 ^ nbits
  match decode [BitVec.ofNat 8 v, BitVec.ofNat 8 (v / 256), BitVec.ofNat 8 (v / 65536)] with
  | .ok (i, _) => some i
  | .error _ => none

end Sys2Proof
end

