-- ==== Sys2Proof/Machine/Fetch.lean ====
section
/-! DEFINITION. Fetching an instruction (`00_scope.md` R8, `20_memory.md` R47): the opcode byte at `pc`, then the
operand bytes its length calls for, in ascending addresses modulo 65536 (`10_state.md` R26). -/

namespace Sys2Proof.Machine

/-- Fetch and decode the instruction at `pc`. An undefined opcode is refused before any operand byte is read
(`30_encoding.md` R57, `93_implementation_defined.md` U1). -/
def fetchInstr {α : Type} (s : State) (k : Instr → State → Answer α) : Answer α :=
  readByte s.pc s fun op s1 =>
    match opcodeForm op with
    | none => .refused (.undefinedOpcode op s.pc)
    | some (.one i) => k i s1
    | some (.two mk) => readByte (s.pc + 1) s1 fun d s2 => k (mk d) s2
    | some (.three mk) =>
      readByte (s.pc + 1) s1 fun l s2 => readByte (s.pc + 2) s2 fun h s3 => k (mk (wordOf h l)) s3

/-- The map says that storage answers at an address. -/
def State.stored (s : State) (a : Word) : Bool :=
  match s.kindAt a with
  | .ram => true
  | .rom => true
  | .absent => false
  | .device => false

/-- The state with three bytes placed at `pc` and the two addresses after it, and nothing that would keep the next step
from fetching them: no input and no latched NMI, and the all-`ram` map where the map has no storage at those
addresses. -/
def State.withBytesAtPc (s : State) (b0 b1 b2 : Byte) : State :=
  let stored := s.stored s.pc && s.stored (s.pc + 1) && s.stored (s.pc + 2)
  { s with
    mem := ((s.mem.write s.pc b0).write (s.pc + 1) b1).write (s.pc + 2) b2
    inputs := []
    nmiPending := false
    params := { s.params with memMap := if stored then s.params.memMap else [] } }

end Sys2Proof.Machine
end

