-- ==== Sys2Proof/Machine/Step.lean ====
section
/-! DEFINITION. One step of the machine (`00_scope.md` R8): the boundary samples the lines; then either the event that
is present is taken, or one instruction is fetched and executed. -/

namespace Sys2Proof.Machine

/-- One step. An event entry is a step of its own, between two instructions (`60_exceptions.md` R169, log 12). -/
def step (s : State) : Host.Outcome State Fault Refusal :=
  let t := sampleLines s
  match pendingEvent t with
  | .reset => takeReset t
  | .nmi => takeNmi t
  | .irq => takeIrq t
  | .quiet => fetchInstr t fun i u => finishInstr i u (exec i u)

/-- The state whose next step fetches the instruction whose bits, first byte least significant, are `w`, bits from
`nbits` on being 0. It stands for the load of a program from outside (log 3). -/
def State.withFetchWord (s : State) (nbits w : Nat) : State :=
  let v := w % 2 ^ nbits
  s.withBytesAtPc (BitVec.ofNat 8 v) (BitVec.ofNat 8 (v / 256)) (BitVec.ofNat 8 (v / 65536))

end Sys2Proof.Machine
end

