-- ==== Sys2Proof/Machine/EndOfRun.lean ====
section
/-! DEFINITION. The instruction that jumps to itself, the second convention for the end of a run
(`70_reset_and_hazards.md` R190). The machine itself never stops: no step reads this. -/

namespace Sys2Proof.Machine

/-- The mnemonics R190 counts as jumping: JMP and the eight branches. JSR, RTS, RTI and BRK are none of them, whatever
address they reach (`91_not_in_source.md` N20: BRK does not stop the machine). -/
def jumpsOrBranches : Mnemonic → Bool
  | .jmp | .bcc | .bcs | .beq | .bne | .bmi | .bpl | .bvc | .bvs => true
  | _ => false

/-- The instruction at `s.pc` jumps to itself: a JMP to its own address, or a taken branch with displacement `$FE`
(R190). -/
def jumpsToItself (i : Instr) (s : State) : Bool :=
  jumpsOrBranches i.mnemonic &&
    match exec i s with
    | .next t => decide (t.pc = s.pc)
    | .fault _ => false
    | .refused _ => false

/-- At this boundary no event is taken and the instruction that is fetched jumps to itself. -/
def State.loopsInPlace (s : State) : Bool :=
  decide (pendingEvent (sampleLines s) = .quiet) &&
    match fetchInstr (sampleLines s) fun i t => .next (jumpsToItself i t) with
    | .next b => b
    | .fault _ => false
    | .refused _ => false

end Sys2Proof.Machine
end

