-- ==== Sys2Proof/Machine/Timing.lean ====
section
/-! DEFINITION. Cycle counts (`70_reset_and_hazards.md` R185 to R188): timing only. No state records them and no
meaning reads them (R185, log 17); they are computed from an instruction and the state before it. -/

namespace Sys2Proof.Machine

/-- The forms of a count in the opcode table (R186). -/
inductive CycleRule where
  /-- always `n` -/
  | fixed (n : Nat)
  /-- `n`, and one more when the index addition crosses a page (R187) -/
  | plusPage (n : Nat)
  /-- `2+t+p` of a branch that is or is not taken (R188) -/
  | branch (taken : Bool)
  deriving DecidableEq, Repr

/-- The count of each row of the opcode table, with the flag each branch tests (R186, R188). -/
def cycleRule (p : Flags) : Instr → CycleRule
  | .tax => .fixed 2
  | .tay => .fixed 2
  | .txa => .fixed 2
  | .tya => .fixed 2
  | .tsx => .fixed 2
  | .txs => .fixed 2
  | .inx => .fixed 2
  | .iny => .fixed 2
  | .dex => .fixed 2
  | .dey => .fixed 2
  | .pha => .fixed 3
  | .pla => .fixed 4
  | .php => .fixed 3
  | .plp => .fixed 4
  | .clc => .fixed 2
  | .sec => .fixed 2
  | .cld => .fixed 2
  | .sed => .fixed 2
  | .cli => .fixed 2
  | .sei => .fixed 2
  | .clv => .fixed 2
  | .aslA => .fixed 2
  | .aslZp _ => .fixed 5
  | .aslZpX _ => .fixed 6
  | .aslAbs _ => .fixed 6
  | .aslAbsX _ => .fixed 7
  | .lsrA => .fixed 2
  | .lsrZp _ => .fixed 5
  | .lsrZpX _ => .fixed 6
  | .lsrAbs _ => .fixed 6
  | .lsrAbsX _ => .fixed 7
  | .rolA => .fixed 2
  | .rolZp _ => .fixed 5
  | .rolZpX _ => .fixed 6
  | .rolAbs _ => .fixed 6
  | .rolAbsX _ => .fixed 7
  | .rorA => .fixed 2
  | .rorZp _ => .fixed 5
  | .rorZpX _ => .fixed 6
  | .rorAbs _ => .fixed 6
  | .rorAbsX _ => .fixed 7
  | .ldaImm _ => .fixed 2
  | .ldaZp _ => .fixed 3
  | .ldaZpX _ => .fixed 4
  | .ldaAbs _ => .fixed 4
  | .ldaAbsX _ => .plusPage 4
  | .ldaAbsY _ => .plusPage 4
  | .ldaIndX _ => .fixed 6
  | .ldaIndY _ => .plusPage 5
  | .ldxImm _ => .fixed 2
  | .ldxZp _ => .fixed 3
  | .ldxZpY _ => .fixed 4
  | .ldxAbs _ => .fixed 4
  | .ldxAbsY _ => .plusPage 4
  | .ldyImm _ => .fixed 2
  | .ldyZp _ => .fixed 3
  | .ldyZpX _ => .fixed 4
  | .ldyAbs _ => .fixed 4
  | .ldyAbsX _ => .plusPage 4
  | .staZp _ => .fixed 3
  | .staZpX _ => .fixed 4
  | .staAbs _ => .fixed 4
  | .staAbsX _ => .fixed 5
  | .staAbsY _ => .fixed 5
  | .staIndX _ => .fixed 6
  | .staIndY _ => .fixed 6
  | .stxZp _ => .fixed 3
  | .stxZpY _ => .fixed 4
  | .stxAbs _ => .fixed 4
  | .styZp _ => .fixed 3
  | .styZpX _ => .fixed 4
  | .styAbs _ => .fixed 4
  | .adcImm _ => .fixed 2
  | .adcZp _ => .fixed 3
  | .adcZpX _ => .fixed 4
  | .adcAbs _ => .fixed 4
  | .adcAbsX _ => .plusPage 4
  | .adcAbsY _ => .plusPage 4
  | .adcIndX _ => .fixed 6
  | .adcIndY _ => .plusPage 5
  | .sbcImm _ => .fixed 2
  | .sbcZp _ => .fixed 3
  | .sbcZpX _ => .fixed 4
  | .sbcAbs _ => .fixed 4
  | .sbcAbsX _ => .plusPage 4
  | .sbcAbsY _ => .plusPage 4
  | .sbcIndX _ => .fixed 6
  | .sbcIndY _ => .plusPage 5
  | .andImm _ => .fixed 2
  | .andZp _ => .fixed 3
  | .andZpX _ => .fixed 4
  | .andAbs _ => .fixed 4
  | .andAbsX _ => .plusPage 4
  | .andAbsY _ => .plusPage 4
  | .andIndX _ => .fixed 6
  | .andIndY _ => .plusPage 5
  | .oraImm _ => .fixed 2
  | .oraZp _ => .fixed 3
  | .oraZpX _ => .fixed 4
  | .oraAbs _ => .fixed 4
  | .oraAbsX _ => .plusPage 4
  | .oraAbsY _ => .plusPage 4
  | .oraIndX _ => .fixed 6
  | .oraIndY _ => .plusPage 5
  | .eorImm _ => .fixed 2
  | .eorZp _ => .fixed 3
  | .eorZpX _ => .fixed 4
  | .eorAbs _ => .fixed 4
  | .eorAbsX _ => .plusPage 4
  | .eorAbsY _ => .plusPage 4
  | .eorIndX _ => .fixed 6
  | .eorIndY _ => .plusPage 5
  | .cmpImm _ => .fixed 2
  | .cmpZp _ => .fixed 3
  | .cmpZpX _ => .fixed 4
  | .cmpAbs _ => .fixed 4
  | .cmpAbsX _ => .plusPage 4
  | .cmpAbsY _ => .plusPage 4
  | .cmpIndX _ => .fixed 6
  | .cmpIndY _ => .plusPage 5
  | .cpxImm _ => .fixed 2
  | .cpxZp _ => .fixed 3
  | .cpxAbs _ => .fixed 4
  | .cpyImm _ => .fixed 2
  | .cpyZp _ => .fixed 3
  | .cpyAbs _ => .fixed 4
  | .bitZp _ => .fixed 3
  | .bitAbs _ => .fixed 4
  | .incZp _ => .fixed 5
  | .incZpX _ => .fixed 6
  | .incAbs _ => .fixed 6
  | .incAbsX _ => .fixed 7
  | .decZp _ => .fixed 5
  | .decZpX _ => .fixed 6
  | .decAbs _ => .fixed 6
  | .decAbsX _ => .fixed 7
  | .jmpAbs _ => .fixed 3
  | .jmpInd _ => .fixed 5
  | .jsr _ => .fixed 6
  | .rts => .fixed 6
  | .brk => .fixed 7
  | .rti => .fixed 6
  | .nop => .fixed 2
  | .bcc _ => .branch (!p.c)
  | .bcs _ => .branch p.c
  | .beq _ => .branch p.z
  | .bne _ => .branch (!p.z)
  | .bmi _ => .branch p.n
  | .bpl _ => .branch (!p.n)
  | .bvc _ => .branch (!p.v)
  | .bvs _ => .branch p.v

/-- The high byte of the address differs from the base's (`40_addressing_modes.md` R84). -/
def crossed (base ea : Word) : Bool := decide (hiByte ea ≠ hiByte base)

/-- Whether the address computation of an instruction crosses a page (`40_addressing_modes.md` R78, R79, R82, R83); no
other mode does (R84). -/
def pageCrossed (i : Instr) (s : State) : Answer Bool :=
  match i.mode, i.operand with
  | .absoluteX, .word base => .next (crossed base (eaAbsX base s))
  | .absoluteY, .word base => .next (crossed base (eaAbsY base s))
  | .indirectIndexed, .byte d => read16zp d s fun base s1 => .next (crossed base (base + zext16 s1.y))
  | .relative, .disp d => .next (crossed (s.pc + 2) (eaRel d s))
  | _, _ => .next false

/-- A count with one cycle more on a page crossing. -/
def withPage (n : Nat) (i : Instr) (s : State) : Answer Nat :=
  match pageCrossed i s with
  | .next c => .next (n + bitNat c)
  | .fault f => .fault f
  | .refused r => .refused r

/-- The cycles an instruction takes from the state before it (R186 to R188). -/
def cycles (i : Instr) (s : State) : Answer Nat :=
  match cycleRule s.p i with
  | .fixed n => .next n
  | .plusPage n => withPage n i s
  | .branch taken => if taken then withPage 3 i s else .next 2

/-- The cycles of taking an event (R185, from general knowledge). -/
def eventCycles : Event → Nat
  | .quiet => 0
  | .reset => 7
  | .nmi => 7
  | .irq => 7

end Sys2Proof.Machine
end

