-- ==== Sys2Proof/Safety.lean ====
section
/-! DEFINITION. The terms claims are made in: what storage answers, a boundary with no event, the invariant of the
machine, and the two conventions for the end of a run. -/

namespace Sys2Proof.Machine

/-- Storage answers at the address: it is `ram` or `rom` (`00_scope.md` R5, `MemMap`). -/
def State.Plain (s : State) (a : Word) : Prop := s.kindAt a = .ram ∨ s.kindAt a = .rom

/-- The address map has no device, as the spec's default has none (`93_implementation_defined.md` U7). -/
def State.NoDevice (s : State) : Prop := ∀ a, s.kindAt a ≠ .device

/-- At the next boundary no event is taken. -/
def State.Quiet (s : State) : Prop := pendingEvent (sampleLines s) = .quiet

/-- The invariant of every step: memory keeps its one canonical form. -/
def Inv (s : State) : Prop := s.mem.wf = true

/-- A run ends when `pc` reaches a stated address, before the instruction there is fetched
(`70_reset_and_hazards.md` R190). -/
def State.StoppedAt (s : State) (a : Word) : Prop := s.pc = a

/-- A run ends when an instruction jumps to itself, by JMP to its own address or by a taken branch with displacement
`$FE` (`70_reset_and_hazards.md` R190): no event is taken at the boundary and the instruction at `pc` is such a one. -/
def State.LoopsInPlace (s : State) : Prop := s.loopsInPlace = true

end Sys2Proof.Machine
end

