-- ==== Sys2Proof/Certificates/Slice0/Obligations.lean ====
section
/-! DEFINITION. The statements for the provers. The helpers under `Sys2Proof.Claims` write out, from the mode rules of
`40_addressing_modes.md` and the primitives of `00_scope.md` R7, what one form of an instruction does; each statement
then lists the forms of its instructions with their opcode, cycles and effect. -/

namespace Sys2Proof.Claims

open Sys2Proof.Machine

/-- The bytes are exactly one instruction (`30_encoding.md` R55, R56). -/
def Decodes (bs : List Byte) (i : Instr) : Prop := decode bs = .ok (i, [])

/-- `P` after `SetNZ(v)` (`10_state.md` R17). -/
def nz (v : Byte) (p : Flags) : Flags := { p with n := v.getLsbD 7, z := decide (v = 0x00#8) }

/-- A flag as 0 or 1. -/
def one (b : Bool) : Nat := if b then 1 else 0

/-- `PByte(b)` as a number: bit weights of `10_state.md` R16. -/
def statusByte (b : Bool) (p : Flags) : Byte :=
  BitVec.ofNat 8 (128 * one p.n + 64 * one p.v + 32 + 16 * one b + 8 * one p.d + 4 * one p.i + 2 * one p.z + one p.c)

/-- `$01 : S` for a given `S` (`20_memory.md` R37). -/
def stackByte (sp : Byte) : Word := wordOf 0x01#8 sp

/-- Memory after the stores in order, each landing where the map has `ram` (`20_memory.md` R42,
`93_implementation_defined.md` U8). -/
def stored (s : State) (cells : List (Word × Byte)) : Memory :=
  cells.foldl (fun m c => if s.kindAt c.1 = .ram then m.write c.1 c.2 else m) s.mem

/-- One more cycle when the page of `ea` is not the page of `base` (`70_reset_and_hazards.md` R187). -/
def crossing (base ea : Word) : Nat := if hiByte ea = hiByte base then 0 else 1

/-- A form of one byte that completes in every state: opcode, cycles and effect besides `pc <- nextpc`. -/
def OneByte (op : Byte) (i : Instr) (cyc : Nat) (eff : State → State) : Prop :=
  Decodes [op] i ∧ ∀ s : State, exec i s = .next { eff s with pc := s.pc + 1 } ∧ cycles i s = .next cyc

/-! Forms that read one byte: `pre` says in which states the effect is `eff m`, `m` being the operand. -/

def ReadImm (op : Byte) (mk : Byte → Instr) (pre : State → Prop) (eff : Byte → State → State) : Prop :=
  ∀ d, Decodes [op, d] (mk d) ∧ ∀ s : State, pre s →
    exec (mk d) s = .next { eff d s with pc := s.pc + 2 } ∧ cycles (mk d) s = .next 2

def ReadZp (op : Byte) (mk : Byte → Instr) (pre : State → Prop) (eff : Byte → State → State) : Prop :=
  ∀ d, Decodes [op, d] (mk d) ∧ ∀ s : State, pre s → s.Plain (wordOf 0 d) →
    exec (mk d) s = .next { eff (s.peek (wordOf 0 d)) s with pc := s.pc + 2 } ∧ cycles (mk d) s = .next 3

def ReadZpX (op : Byte) (mk : Byte → Instr) (pre : State → Prop) (eff : Byte → State → State) : Prop :=
  ∀ d, Decodes [op, d] (mk d) ∧ ∀ s : State, pre s → s.Plain (wordOf 0 (d + s.x)) →
    exec (mk d) s = .next { eff (s.peek (wordOf 0 (d + s.x))) s with pc := s.pc + 2 } ∧ cycles (mk d) s = .next 4

def ReadZpY (op : Byte) (mk : Byte → Instr) (pre : State → Prop) (eff : Byte → State → State) : Prop :=
  ∀ d, Decodes [op, d] (mk d) ∧ ∀ s : State, pre s → s.Plain (wordOf 0 (d + s.y)) →
    exec (mk d) s = .next { eff (s.peek (wordOf 0 (d + s.y))) s with pc := s.pc + 2 } ∧ cycles (mk d) s = .next 4

def ReadAbs (op : Byte) (mk : Word → Instr) (pre : State → Prop) (eff : Byte → State → State) : Prop :=
  ∀ l h, Decodes [op, l, h] (mk (wordOf h l)) ∧ ∀ s : State, pre s → s.Plain (wordOf h l) →
    exec (mk (wordOf h l)) s = .next { eff (s.peek (wordOf h l)) s with pc := s.pc + 3 } ∧
    cycles (mk (wordOf h l)) s = .next 4

def ReadAbsX (op : Byte) (mk : Word → Instr) (pre : State → Prop) (eff : Byte → State → State) : Prop :=
  ∀ l h, Decodes [op, l, h] (mk (wordOf h l)) ∧ ∀ s : State, pre s → s.Plain (wordOf h l + zext16 s.x) →
    exec (mk (wordOf h l)) s = .next { eff (s.peek (wordOf h l + zext16 s.x)) s with pc := s.pc + 3 } ∧
    cycles (mk (wordOf h l)) s = .next (4 + crossing (wordOf h l) (wordOf h l + zext16 s.x))

def ReadAbsY (op : Byte) (mk : Word → Instr) (pre : State → Prop) (eff : Byte → State → State) : Prop :=
  ∀ l h, Decodes [op, l, h] (mk (wordOf h l)) ∧ ∀ s : State, pre s → s.Plain (wordOf h l + zext16 s.y) →
    exec (mk (wordOf h l)) s = .next { eff (s.peek (wordOf h l + zext16 s.y)) s with pc := s.pc + 3 } ∧
    cycles (mk (wordOf h l)) s = .next (4 + crossing (wordOf h l) (wordOf h l + zext16 s.y))

/-- The pointer in zero page at `p`, its high byte at `(p + 1) AND $FF` (`20_memory.md` R36). -/
def zpPointer (s : State) (p : Byte) : Word := wordOf (s.peek (wordOf 0 (p + 1))) (s.peek (wordOf 0 p))

def ReadIndX (op : Byte) (mk : Byte → Instr) (pre : State → Prop) (eff : Byte → State → State) : Prop :=
  ∀ d, Decodes [op, d] (mk d) ∧ ∀ s : State, pre s →
    s.Plain (wordOf 0 (d + s.x)) → s.Plain (wordOf 0 (d + s.x + 1)) → s.Plain (zpPointer s (d + s.x)) →
    exec (mk d) s = .next { eff (s.peek (zpPointer s (d + s.x))) s with pc := s.pc + 2 } ∧ cycles (mk d) s = .next 6

def ReadIndY (op : Byte) (mk : Byte → Instr) (pre : State → Prop) (eff : Byte → State → State) : Prop :=
  ∀ d, Decodes [op, d] (mk d) ∧ ∀ s : State, pre s →
    s.Plain (wordOf 0 d) → s.Plain (wordOf 0 (d + 1)) → s.Plain (zpPointer s d + zext16 s.y) →
    exec (mk d) s = .next { eff (s.peek (zpPointer s d + zext16 s.y)) s with pc := s.pc + 2 } ∧
    cycles (mk d) s = .next (5 + crossing (zpPointer s d) (zpPointer s d + zext16 s.y))

/-- No premise on the state. -/
def always (_ : State) : Prop := True

/-! Forms that write one byte, the register `r`, where the map has no device. -/

def StoreZp (op : Byte) (mk : Byte → Instr) (r : State → Byte) : Prop :=
  ∀ d, Decodes [op, d] (mk d) ∧ ∀ s : State, s.kindAt (wordOf 0 d) ≠ .device →
    exec (mk d) s = .next { s with mem := stored s [(wordOf 0 d, r s)], pc := s.pc + 2 } ∧ cycles (mk d) s = .next 3

def StoreZpX (op : Byte) (mk : Byte → Instr) (r : State → Byte) : Prop :=
  ∀ d, Decodes [op, d] (mk d) ∧ ∀ s : State, s.kindAt (wordOf 0 (d + s.x)) ≠ .device →
    exec (mk d) s = .next { s with mem := stored s [(wordOf 0 (d + s.x), r s)], pc := s.pc + 2 } ∧
    cycles (mk d) s = .next 4

def StoreZpY (op : Byte) (mk : Byte → Instr) (r : State → Byte) : Prop :=
  ∀ d, Decodes [op, d] (mk d) ∧ ∀ s : State, s.kindAt (wordOf 0 (d + s.y)) ≠ .device →
    exec (mk d) s = .next { s with mem := stored s [(wordOf 0 (d + s.y), r s)], pc := s.pc + 2 } ∧
    cycles (mk d) s = .next 4

def StoreAbs (op : Byte) (mk : Word → Instr) (r : State → Byte) : Prop :=
  ∀ l h, Decodes [op, l, h] (mk (wordOf h l)) ∧ ∀ s : State, s.kindAt (wordOf h l) ≠ .device →
    exec (mk (wordOf h l)) s = .next { s with mem := stored s [(wordOf h l, r s)], pc := s.pc + 3 } ∧
    cycles (mk (wordOf h l)) s = .next 4

def StoreAbsX (op : Byte) (mk : Word → Instr) (r : State → Byte) : Prop :=
  ∀ l h, Decodes [op, l, h] (mk (wordOf h l)) ∧ ∀ s : State, s.kindAt (wordOf h l + zext16 s.x) ≠ .device →
    exec (mk (wordOf h l)) s =
      .next { s with mem := stored s [(wordOf h l + zext16 s.x, r s)], pc := s.pc + 3 } ∧
    cycles (mk (wordOf h l)) s = .next 5

def StoreAbsY (op : Byte) (mk : Word → Instr) (r : State → Byte) : Prop :=
  ∀ l h, Decodes [op, l, h] (mk (wordOf h l)) ∧ ∀ s : State, s.kindAt (wordOf h l + zext16 s.y) ≠ .device →
    exec (mk (wordOf h l)) s =
      .next { s with mem := stored s [(wordOf h l + zext16 s.y, r s)], pc := s.pc + 3 } ∧
    cycles (mk (wordOf h l)) s = .next 5

def StoreIndX (op : Byte) (mk : Byte → Instr) (r : State → Byte) : Prop :=
  ∀ d, Decodes [op, d] (mk d) ∧ ∀ s : State, s.Plain (wordOf 0 (d + s.x)) → s.Plain (wordOf 0 (d + s.x + 1)) →
    s.kindAt (zpPointer s (d + s.x)) ≠ .device →
    exec (mk d) s = .next { s with mem := stored s [(zpPointer s (d + s.x), r s)], pc := s.pc + 2 } ∧
    cycles (mk d) s = .next 6

def StoreIndY (op : Byte) (mk : Byte → Instr) (r : State → Byte) : Prop :=
  ∀ d, Decodes [op, d] (mk d) ∧ ∀ s : State, s.Plain (wordOf 0 d) → s.Plain (wordOf 0 (d + 1)) →
    s.kindAt (zpPointer s d + zext16 s.y) ≠ .device →
    exec (mk d) s = .next { s with mem := stored s [(zpPointer s d + zext16 s.y, r s)], pc := s.pc + 2 } ∧
    cycles (mk d) s = .next 6

/-! Forms that read a byte, change it and write it back: `f m p` is the byte written and the flags after. -/

def ModZp (op : Byte) (mk : Byte → Instr) (f : Byte → Flags → Byte × Flags) : Prop :=
  ∀ d, Decodes [op, d] (mk d) ∧ ∀ s : State, s.Plain (wordOf 0 d) →
    exec (mk d) s = .next { s with
      mem := stored s [(wordOf 0 d, (f (s.peek (wordOf 0 d)) s.p).1)]
      p := (f (s.peek (wordOf 0 d)) s.p).2
      pc := s.pc + 2 } ∧ cycles (mk d) s = .next 5

def ModZpX (op : Byte) (mk : Byte → Instr) (f : Byte → Flags → Byte × Flags) : Prop :=
  ∀ d, Decodes [op, d] (mk d) ∧ ∀ s : State, s.Plain (wordOf 0 (d + s.x)) →
    exec (mk d) s = .next { s with
      mem := stored s [(wordOf 0 (d + s.x), (f (s.peek (wordOf 0 (d + s.x))) s.p).1)]
      p := (f (s.peek (wordOf 0 (d + s.x))) s.p).2
      pc := s.pc + 2 } ∧ cycles (mk d) s = .next 6

def ModAbs (op : Byte) (mk : Word → Instr) (f : Byte → Flags → Byte × Flags) : Prop :=
  ∀ l h, Decodes [op, l, h] (mk (wordOf h l)) ∧ ∀ s : State, s.Plain (wordOf h l) →
    exec (mk (wordOf h l)) s = .next { s with
      mem := stored s [(wordOf h l, (f (s.peek (wordOf h l)) s.p).1)]
      p := (f (s.peek (wordOf h l)) s.p).2
      pc := s.pc + 3 } ∧ cycles (mk (wordOf h l)) s = .next 6

def ModAbsX (op : Byte) (mk : Word → Instr) (f : Byte → Flags → Byte × Flags) : Prop :=
  ∀ l h, Decodes [op, l, h] (mk (wordOf h l)) ∧ ∀ s : State, s.Plain (wordOf h l + zext16 s.x) →
    exec (mk (wordOf h l)) s = .next { s with
      mem := stored s [(wordOf h l + zext16 s.x, (f (s.peek (wordOf h l + zext16 s.x)) s.p).1)]
      p := (f (s.peek (wordOf h l + zext16 s.x)) s.p).2
      pc := s.pc + 3 } ∧ cycles (mk (wordOf h l)) s = .next 7

/-- A conditional branch (`47_control_flow.md` R148): every displacement byte `d`, taken exactly when `cond`. -/
def Branches (op : Byte) (mk : Int → Instr) (cond : Flags → Bool) : Prop :=
  ∀ d : Byte, Decodes [op, d] (mk d.toInt) ∧ ∀ s : State,
    exec (mk d.toInt) s =
      .next { s with pc := if cond s.p then s.pc + 2 + d.signExtend 16 else s.pc + 2 } ∧
    cycles (mk d.toInt) s =
      .next (if cond s.p then 3 + crossing (s.pc + 2) (s.pc + 2 + d.signExtend 16) else 2)

/-! Effects of the arithmetic instructions, as their rules write them. -/

/-- Binary ADC (`45_arith_logic_compare.md` R124). -/
def adc (m : Byte) (s : State) : State :=
  let sum := s.a.toNat + m.toNat + one s.p.c
  let r := BitVec.ofNat 8 sum
  { s with
    a := r
    p := nz r { s.p with c := decide (255 < sum), v := ((s.a ^^^ r) &&& (m ^^^ r)).getLsbD 7 } }

/-- Binary SBC (`45_arith_logic_compare.md` R125), `diff` written with the borrow as a number. -/
def sbc (m : Byte) (s : State) : State :=
  let r := BitVec.ofNat 8 (256 + s.a.toNat - m.toNat - (1 - one s.p.c))
  { s with
    a := r
    p := nz r { s.p with
      c := decide (m.toNat + (1 - one s.p.c) ≤ s.a.toNat)
      v := ((s.a ^^^ m) &&& (s.a ^^^ r)).getLsbD 7 } }

/-- The low digit of a byte, and the high digit times 16. -/
def lowDigit (b : Byte) : Nat := b.toNat % 16
def highPart (b : Byte) : Nat := b.toNat / 16 * 16

/-- Decimal ADC (`45_arith_logic_compare.md` R136). -/
def adcBcd (m : Byte) (s : State) : State :=
  let al0 := lowDigit s.a + lowDigit m + one s.p.c
  let al := if 10 ≤ al0 then (al0 + 6) % 16 + 16 else al0
  let t := highPart s.a + highPart m + al
  let u := if 160 ≤ t then t + 96 else t
  { s with
    a := BitVec.ofNat 8 u
    p := { s.p with
      z := decide ((s.a.toNat + m.toNat + one s.p.c) % 256 = 0)
      n := t.testBit 7
      v := ((s.a ^^^ BitVec.ofNat 8 t) &&& (m ^^^ BitVec.ofNat 8 t)).getLsbD 7
      c := decide (256 ≤ u) } }

/-- Decimal SBC (`45_arith_logic_compare.md` R137): the flags of the binary SBC. -/
def sbcBcd (m : Byte) (s : State) : State :=
  let al0 : Int := (lowDigit s.a : Int) - lowDigit m - (1 - one s.p.c)
  let al : Int := if al0 < 0 then (al0 - 6) % 16 - 16 else al0
  let t : Int := (highPart s.a : Int) - highPart m + al
  { s with a := BitVec.ofInt 8 (if t < 0 then t - 96 else t), p := (sbc m s).p }

/-- ADC and SBC are binary: `D = 0`, or `D` is ignored (`45_arith_logic_compare.md` R126). -/
def binaryArith (s : State) : Prop := s.p.d = false ∨ s.params.decimal = .binary

/-- ADC and SBC are decimal: `D = 1` under `nmos_bcd` (`45_arith_logic_compare.md` R126). -/
def decimalArith (s : State) : Prop := s.p.d = true ∧ s.params.decimal = .nmosBcd

/-- A comparison of the register value `r` with `m` (`45_arith_logic_compare.md` R130). -/
def compared (r m : Byte) (p : Flags) : Flags :=
  { p with c := decide (m.toNat ≤ r.toNat), z := decide (r = m), n := (r - m).getLsbD 7 }

/-! Shifts and rotates (`43_shift_rotate.md` R112 to R115) as arithmetic on the byte, with the flags of R116. -/

def shifted (r : Byte) (c : Bool) (p : Flags) : Byte × Flags := (r, nz r { p with c := c })
def asl (m : Byte) (p : Flags) : Byte × Flags := shifted (BitVec.ofNat 8 (2 * m.toNat)) (decide (128 ≤ m.toNat)) p
def lsr (m : Byte) (p : Flags) : Byte × Flags := shifted (BitVec.ofNat 8 (m.toNat / 2)) (decide (m.toNat % 2 = 1)) p
def rol (m : Byte) (p : Flags) : Byte × Flags :=
  shifted (BitVec.ofNat 8 (2 * m.toNat + one p.c)) (decide (128 ≤ m.toNat)) p
def ror (m : Byte) (p : Flags) : Byte × Flags :=
  shifted (BitVec.ofNat 8 (m.toNat / 2 + 128 * one p.c)) (decide (m.toNat % 2 = 1)) p

/-- The four memory forms and the accumulator form of a shift. -/
def ShiftForms (acc zp zpx abs absx : Byte) (a : Instr) (mzp mzpx : Byte → Instr) (mabs mabsx : Word → Instr)
    (f : Byte → Flags → Byte × Flags) : Prop :=
  OneByte acc a 2 (fun s => { s with a := (f s.a s.p).1, p := (f s.a s.p).2 }) ∧
  ModZp zp mzp f ∧ ModZpX zpx mzpx f ∧ ModAbs abs mabs f ∧ ModAbsX absx mabsx f

/-- INC and DEC by `delta` (`46_incdec_memory.md` R138, R139). -/
def counted (delta : Byte) (m : Byte) (p : Flags) : Byte × Flags := (m + delta, nz (m + delta) p)

/-- The 105 undefined opcode bytes, in the order of `30_encoding.md` R57. -/
def undefinedOpcodes : List Byte :=
  [0x02#8, 0x03#8, 0x04#8, 0x07#8, 0x0B#8, 0x0C#8, 0x0F#8, 0x12#8, 0x13#8, 0x14#8, 0x17#8, 0x1A#8, 0x1B#8, 0x1C#8,
   0x1F#8, 0x22#8, 0x23#8, 0x27#8, 0x2B#8, 0x2F#8, 0x32#8] ++
  [0x33#8, 0x34#8, 0x37#8, 0x3A#8, 0x3B#8, 0x3C#8, 0x3F#8, 0x42#8, 0x43#8, 0x44#8, 0x47#8, 0x4B#8, 0x4F#8, 0x52#8,
   0x53#8, 0x54#8, 0x57#8, 0x5A#8, 0x5B#8, 0x5C#8, 0x5F#8] ++
  [0x62#8, 0x63#8, 0x64#8, 0x67#8, 0x6B#8, 0x6F#8, 0x72#8, 0x73#8, 0x74#8, 0x77#8, 0x7A#8, 0x7B#8, 0x7C#8, 0x7F#8,
   0x80#8, 0x82#8, 0x83#8, 0x87#8, 0x89#8, 0x8B#8, 0x8F#8] ++
  [0x92#8, 0x93#8, 0x97#8, 0x9B#8, 0x9C#8, 0x9E#8, 0x9F#8, 0xA3#8, 0xA7#8, 0xAB#8, 0xAF#8, 0xB2#8, 0xB3#8, 0xB7#8,
   0xBB#8, 0xBF#8, 0xC2#8, 0xC3#8, 0xC7#8, 0xCB#8, 0xCF#8] ++
  [0xD2#8, 0xD3#8, 0xD4#8, 0xD7#8, 0xDA#8, 0xDB#8, 0xDC#8, 0xDF#8, 0xE2#8, 0xE3#8, 0xE7#8, 0xEB#8, 0xEF#8, 0xF2#8,
   0xF3#8, 0xF4#8, 0xF7#8, 0xFA#8, 0xFB#8, 0xFC#8, 0xFF#8]

/-- The stores of a register with the address each stores to, as the meanings compute it. -/
def storeForms (d : Byte) (addr : Word) : List (Instr × (State → Answer Word)) :=
  [(.staZp d, fun _ => .next (eaZp d)), (.staZpX d, fun s => .next (eaZpX d s)), (.staAbs addr, fun _ => .next addr),
   (.staAbsX addr, fun s => .next (eaAbsX addr s)), (.staAbsY addr, fun s => .next (eaAbsY addr s)),
   (.staIndX d, fun s => withIndX d s fun ea _ => .next ea), (.staIndY d, fun s => withIndY d s fun ea _ => .next ea),
   (.stxZp d, fun _ => .next (eaZp d)), (.stxZpY d, fun s => .next (eaZpY d s)), (.stxAbs addr, fun _ => .next addr),
   (.styZp d, fun _ => .next (eaZp d)), (.styZpX d, fun s => .next (eaZpX d s)), (.styAbs addr, fun _ => .next addr)]

/-- The read-modify-write forms with the address each stores to, as the meanings compute it. -/
def modifyForms (d : Byte) (addr : Word) : List (Instr × (State → Word)) :=
  [(.aslZp d, fun _ => eaZp d), (.aslZpX d, eaZpX d), (.aslAbs addr, fun _ => addr), (.aslAbsX addr, eaAbsX addr),
   (.lsrZp d, fun _ => eaZp d), (.lsrZpX d, eaZpX d), (.lsrAbs addr, fun _ => addr), (.lsrAbsX addr, eaAbsX addr),
   (.rolZp d, fun _ => eaZp d), (.rolZpX d, eaZpX d), (.rolAbs addr, fun _ => addr), (.rolAbsX addr, eaAbsX addr),
   (.rorZp d, fun _ => eaZp d), (.rorZpX d, eaZpX d), (.rorAbs addr, fun _ => addr), (.rorAbsX addr, eaAbsX addr),
   (.incZp d, fun _ => eaZp d), (.incZpX d, eaZpX d), (.incAbs addr, fun _ => addr), (.incAbsX addr, eaAbsX addr),
   (.decZp d, fun _ => eaZp d), (.decZpX d, eaZpX d), (.decAbs addr, fun _ => addr), (.decAbsX addr, eaAbsX addr)]

/-- The instruction stores nothing: no store, no push, and a shift or rotate only of the accumulator. -/
def storesNothing (i : Instr) : Prop :=
  i.mnemonic ∉ [Mnemonic.sta, .stx, .sty, .inc, .dec, .pha, .php, .jsr, .brk] ∧
  (i.mnemonic ∈ [Mnemonic.asl, .lsr, .rol, .ror] → i.mode = .accumulator)

/-- The byte that the next step fetches at `pc`, a free value where the address is absent. -/
def FetchesByte (s : State) (b : Byte) : Prop :=
  readByte s.pc (sampleLines s) (fun v _ => .next v) = (.next b : Answer Byte)

/-- The instruction that the next step fetches. -/
def FetchesInstr (s : State) (i : Instr) : Prop :=
  fetchInstr (sampleLines s) (fun j _ => .next j) = (.next i : Answer Instr)

/-- A JSR whose own pushes overwrite its third byte (`93_implementation_defined.md` U19). -/
def overwritesOperand (s : State) : Prop :=
  (s.pc + 2 = stackByte s.sp ∨ s.pc + 2 = stackByte (s.sp - 1)) ∧ s.kindAt (s.pc + 2) = .ram

/-- The byte with the decimal digits of `v` (`v` below 100). -/
def bcd (v : Nat) : Byte := BitVec.ofNat 8 (16 * (v / 10) + v % 10)

end Sys2Proof.Claims

open Sys2Proof Sys2Proof.Machine Sys2Proof.Claims

/-- For every well-formed instruction and any bytes after its encoding, the decoder reads that instruction and leaves
those bytes. So no bit of an operand is dropped and no two instructions share an encoding.
Rests on 30_encoding.md 1 to 4 (R50, R51, R52, R55, R56). -/
def Obligations.DecodeOfEncode : Prop :=
  ∀ (i : Instr) (rest : List Byte), WellFormed i → decode (encode i ++ rest) = .ok (i, rest)

/-- Whatever bytes the decoder accepts, the instruction it gives is well formed and its encoding is the bytes it took;
so every instruction has one encoding and the encoder misses no bit of it.
Rests on 30_encoding.md 1 to 4 (R50, R51, R52, R55, R56). -/
def Obligations.EncodeOfDecode : Prop :=
  ∀ (bs rest : List Byte) (i : Instr), decode bs = .ok (i, rest) → WellFormed i ∧ encode i ++ rest = bs

/-- The encodings the spec writes out for LDA $1234, LDA #$42, JMP ($30FF), LDA ($80),Y, BNE $DE, ASL A, STX $10,Y, BRK
and INC $FF decode to those instructions.
Rests on 30_encoding.md 4 (R56), 40_addressing_modes.md (worked examples). -/
def Obligations.SomeWordsDecode : Prop :=
  Decodes [0xAD, 0x34, 0x12] (.ldaAbs 0x1234) ∧ Decodes [0xA9, 0x42] (.ldaImm 0x42) ∧
  Decodes [0x6C, 0xFF, 0x30] (.jmpInd 0x30FF) ∧ Decodes [0xB1, 0x80] (.ldaIndY 0x80) ∧
  Decodes [0xD0, 0xDE] (.bne (-34)) ∧ Decodes [0x0A] .aslA ∧ Decodes [0x96, 0x10] (.stxZpY 0x10) ∧
  Decodes [0x00] .brk ∧ Decodes [0xE6, 0xFF] (.incZp 0xFF)

/-- From any state whose memory has its canonical form, a step that answers a next state leaves memory in canonical
form: addresses strictly rising and below 65536, no cell equal to what an unlisted address reads as. The form is the
model's own device for R30's one space of 65536 bytes.
Rests on 20_memory.md 1 and 6 (R30, R42). -/
def Obligations.StepKeepsMemoryCanonical : Prop :=
  ∀ s t : State, Inv s → step s = .next t → Inv t

/-- The invariant that every step keeps holds of the state after RESET. That its memory lists nothing, no program being
loaded, and that an unlisted byte reads $00 are the model's choices, logs 3 and 1: the spec gives memory no content.
Rests on 10_state.md 8 (R23), 20_memory.md 1 (R30), log 1, log 3. -/
def Obligations.ResetMemoryCanonical : Prop :=
  Inv State.reset

/-- After any number of steps, events included, an address the map marks rom is still marked rom and holds the byte it
held, whatever instructions ran.
Rests on 93_implementation_defined.md U8, 20_memory.md 5 (R41). -/
def Obligations.RomNeverChanges : Prop :=
  ∀ (n : Nat) (s t : State) (a : Word), s.kindAt a = .rom → Host.Core.run core n s = .next t →
    t.kindAt a = .rom ∧ t.peek a = s.peek a

/-- A step that answers a next state leaves the decimal mode, the address map and the reset values as they were. That
the parameters of R5 stand in the state is the model's choice, log 5.
Rests on 00_scope.md 4 (R5), log 5. -/
def Obligations.ParametersNeverChange : Prop :=
  ∀ s t : State, step s = .next t → t.params = s.params

/-- When no event is taken at the boundary and the n bytes at pc, all answered by storage, decode to the instruction i
with nothing left, the step is the meaning of i on the state with the boundary's sample taken in (the first input
consumed and on the lines, the NMI latch clear); and in a next state i_poll becomes the I before the instruction for
CLI, SEI and PLP, else the I it leaves. The list of inputs is the model's form of the lines, log 10.
Rests on 00_scope.md 5 (R8), 30_encoding.md 4 (R55), 60_exceptions.md 2 (R164), log 10. -/
def Obligations.StepRunsDecodedInstruction : Prop :=
  ∀ (s : State) (i : Instr) (n : Nat), s.Quiet → WellFormed i →
    (∀ k, k < n → s.Plain (s.pc + BitVec.ofNat 16 k)) →
    Decodes ((List.range n).map fun k => s.peek (s.pc + BitVec.ofNat 16 k)) i →
    step s =
      match exec i { s with inputs := s.inputs.tail, lines := s.inputs.headD Lines.released, nmiPending := false } with
      | .next t =>
        .next { t with iPoll := if i.mnemonic ∈ [Mnemonic.cli, .sei, .plp] then s.p.i else t.p.i }
      | .fault f => .fault f
      | .refused r => .refused r

/-- A byte selects no instruction exactly when it is in the list of R57, which has 105 bytes; and a quiet step with such
a byte at pc is refused as an undefined opcode, with the byte and its address.
Rests on 30_encoding.md 5 (R57), 93_implementation_defined.md U1. -/
def Obligations.UndefinedOpcodeRefused : Prop :=
  undefinedOpcodes.length = 105 ∧ (∀ b : Byte, (opcodeForm b).isNone = true ↔ b ∈ undefinedOpcodes) ∧
  ∀ s : State, s.Quiet → s.Plain s.pc → s.peek s.pc ∈ undefinedOpcodes →
    step s = .refused (.undefinedOpcode (s.peek s.pc) s.pc)

/-- Under an address map with no device, the meaning of every instruction answers a next state, whatever the registers,
flags and memory hold; the only premises leave out ADC and SBC with D = 1 under DecimalMode = refuse, and a JSR
whose pushes overwrite its own third byte. The spec refuses both; that the second is refused only where the third
byte is ram, so that a JSR with that byte in rom or at an absent address completes, is the model's reading, log 15;
that a write to an absent address completes is log 6.
Rests on 60_exceptions.md 1 (R172), 20_memory.md 7 (R46), 93_implementation_defined.md U3, U6, U7, U8, U19, log 6,
log 15. -/
def Obligations.EveryInstructionCompletes : Prop :=
  ∀ (i : Instr) (s : State), s.NoDevice →
    (i.mnemonic ∈ [Mnemonic.adc, .sbc] → s.p.d = true → s.params.decimal ≠ .refuse) →
    (i.mnemonic = .jsr → ¬ overwritesOperand s) →
    ∃ t, exec i s = .next t

/-- If a step is refused, then: the boundary is quiet, the byte fetched at pc is one of the 105 undefined opcodes, and
the reason names it and pc; or the boundary is quiet, the instruction fetched is an ADC or SBC, D = 1 under
DecimalMode = refuse, and the reason is decimal arithmetic; or the reason names an address that the map marks
device; or the boundary is quiet, the instruction fetched is a JSR whose pushes would overwrite its own third byte,
that byte being ram (the model's reading of U19, log 15), and the reason says so with pc.
Rests on 30_encoding.md 5 (R57), 45_arith_logic_compare.md 2 (R126), 93_implementation_defined.md U1, U3, U7, U19,
log 15. -/
def Obligations.StepRefusesOnlyAsTheSpecSays : Prop :=
  ∀ (s : State) (r : Refusal), step s = .refused r →
    (s.Quiet ∧ ∃ b, FetchesByte s b ∧ b ∈ undefinedOpcodes ∧ r = .undefinedOpcode b s.pc) ∨
    (s.Quiet ∧ ∃ i, FetchesInstr s i ∧ i.mnemonic ∈ [Mnemonic.adc, .sbc] ∧ s.p.d = true ∧
      s.params.decimal = .refuse ∧ r = .decimalArithmetic) ∨
    (∃ a, s.kindAt a = .device ∧ r = .deviceAccess a) ∨
    (s.Quiet ∧ ∃ addr, FetchesInstr s (.jsr addr) ∧ overwritesOperand s ∧ r = .jsrOverwritesOperand s.pc)

/-- STA to rom or to an absent address completes and leaves memory as it was (for absent: the model's reading, log 6);
LDA from an absent address completes with a free value, whatever it is, and takes one (the count of them is the
model's own, log 8); LDA from and STA to a device are refused with the address.
Rests on 93_implementation_defined.md U6, U7, U8, 92_eei_decisions.md D16, log 6, log 8. -/
def Obligations.AddressMapDecidesAccess : Prop :=
  ∀ (s : State) (a : Word),
    (s.kindAt a = .rom ∨ s.kindAt a = .absent → exec (.staAbs a) s = .next { s with pc := s.pc + 3 }) ∧
    (s.kindAt a = .absent → exec (.ldaAbs a) s = .next { s with
      a := Config.freeByte s.draws
      p := nz (Config.freeByte s.draws) s.p
      draws := s.draws + 1
      pc := s.pc + 3 }) ∧
    (s.kindAt a = .device →
      exec (.staAbs a) s = .refused (.deviceAccess a) ∧ exec (.ldaAbs a) s = .refused (.deviceAccess a))

/-- For each of the six transfers: its opcode decodes to it, it takes 2 cycles, and in every state it completes with the
destination equal to the source, N and Z set from the value (none for TXS), pc advanced by 1 and all else unchanged.
Formalises R90, R91, R92, R93, R94, R95. -/
def Obligations.TransfersCopyRegister : Prop :=
  OneByte 0xAA .tax 2 (fun s => { s with x := s.a, p := nz s.a s.p }) ∧
  OneByte 0xA8 .tay 2 (fun s => { s with y := s.a, p := nz s.a s.p }) ∧
  OneByte 0x8A .txa 2 (fun s => { s with a := s.x, p := nz s.x s.p }) ∧
  OneByte 0x98 .tya 2 (fun s => { s with a := s.y, p := nz s.y s.p }) ∧
  OneByte 0xBA .tsx 2 (fun s => { s with x := s.sp, p := nz s.sp s.p }) ∧
  OneByte 0x9A .txs 2 (fun s => { s with sp := s.x })

/-- For each: its opcode decodes to it, it takes 2 cycles, and in every state it completes with the register changed by
one modulo 256, N and Z from the new value, C and V untouched, pc advanced by 1 and all else unchanged.
Formalises R96, R97, R98, R99. -/
def Obligations.RegisterCountsWrap : Prop :=
  OneByte 0xE8 .inx 2 (fun s => { s with x := s.x + 1, p := nz (s.x + 1) s.p }) ∧
  OneByte 0xC8 .iny 2 (fun s => { s with y := s.y + 1, p := nz (s.y + 1) s.p }) ∧
  OneByte 0xCA .dex 2 (fun s => { s with x := s.x - 1, p := nz (s.x - 1) s.p }) ∧
  OneByte 0x88 .dey 2 (fun s => { s with y := s.y - 1, p := nz (s.y - 1) s.p })

/-- For each of the seven: its opcode decodes to it, it takes 2 cycles, and in every state it completes with its one
flag written, pc advanced by 1 and all else unchanged.
Formalises R105, R106, R107, R110, R111. -/
def Obligations.FlagInstructionsWriteOneFlag : Prop :=
  OneByte 0x18 .clc 2 (fun s => { s with p := { s.p with c := false } }) ∧
  OneByte 0x38 .sec 2 (fun s => { s with p := { s.p with c := true } }) ∧
  OneByte 0xD8 .cld 2 (fun s => { s with p := { s.p with d := false } }) ∧
  OneByte 0xF8 .sed 2 (fun s => { s with p := { s.p with d := true } }) ∧
  OneByte 0x58 .cli 2 (fun s => { s with p := { s.p with i := false } }) ∧
  OneByte 0x78 .sei 2 (fun s => { s with p := { s.p with i := true } }) ∧
  OneByte 0xB8 .clv 2 (fun s => { s with p := { s.p with v := false } })

/-- For each: its opcode decodes to it and it has its cycles. PHA stores A and PHP the status byte with bits 5 and 4 set
at $01:S, S going down by one with wrap, flags unchanged. PLA loads A from the byte above with N and Z from it; PLP
loads the six flags from its bits 7, 6, 3, 2, 1, 0. Premise: the stack address is no device (pushes), storage
answers there (pulls). That a byte pushed at an absent address is discarded is the model's reading, log 6.
Rests on 42_stack_flags.md (R101, R102, R103, R104), log 6. -/
def Obligations.StackInstructionsPushAndPull : Prop :=
  (Decodes [0x48] .pha ∧ ∀ s : State, s.kindAt (stackByte s.sp) ≠ .device →
    exec .pha s = .next { s with mem := stored s [(stackByte s.sp, s.a)], sp := s.sp - 1, pc := s.pc + 1 } ∧
    cycles .pha s = .next 3) ∧
  (Decodes [0x08] .php ∧ ∀ s : State, s.kindAt (stackByte s.sp) ≠ .device →
    exec .php s = .next { s with
      mem := stored s [(stackByte s.sp, statusByte true s.p)], sp := s.sp - 1, pc := s.pc + 1 } ∧
    cycles .php s = .next 3) ∧
  (Decodes [0x68] .pla ∧ ∀ s : State, s.Plain (stackByte (s.sp + 1)) →
    exec .pla s = .next { s with
      a := s.peek (stackByte (s.sp + 1)), p := nz (s.peek (stackByte (s.sp + 1))) s.p
      sp := s.sp + 1, pc := s.pc + 1 } ∧ cycles .pla s = .next 4) ∧
  (Decodes [0x28] .plp ∧ ∀ s : State, s.Plain (stackByte (s.sp + 1)) →
    let b := s.peek (stackByte (s.sp + 1))
    exec .plp s = .next { s with
      p := { n := b.getLsbD 7, v := b.getLsbD 6, d := b.getLsbD 3, i := b.getLsbD 2, z := b.getLsbD 1, c := b.getLsbD 0 }
      sp := s.sp + 1, pc := s.pc + 1 } ∧ cycles .plp s = .next 4)

/-- All five forms of ASL, with their opcodes and cycles: of A, and of the byte at the effective address in Zero Page,
Zero Page,X, Absolute and Absolute,X, read once and written once. C is the bit shifted out, N and Z describe the
result, all else is unchanged; in the memory forms A is neither read nor written. Premise of the memory forms:
storage answers at the address.
Formalises R112. -/
def Obligations.AslForms : Prop :=
  ShiftForms 0x0A 0x06 0x16 0x0E 0x1E
    .aslA .aslZp .aslZpX .aslAbs .aslAbsX Claims.asl

/-- All five forms of LSR, with their opcodes and cycles: of A, and of the byte at the effective address in Zero Page,
Zero Page,X, Absolute and Absolute,X, read once and written once. C is the bit shifted out, N and Z describe the
result, all else is unchanged; in the memory forms A is neither read nor written. Premise of the memory forms:
storage answers at the address.
Formalises R113. -/
def Obligations.LsrForms : Prop :=
  ShiftForms 0x4A 0x46 0x56 0x4E 0x5E
    .lsrA .lsrZp .lsrZpX .lsrAbs .lsrAbsX Claims.lsr

/-- All five forms of ROL, with their opcodes and cycles: of A, and of the byte at the effective address in Zero Page,
Zero Page,X, Absolute and Absolute,X, read once and written once. C is the bit shifted out, N and Z describe the
result, all else is unchanged; in the memory forms A is neither read nor written. Premise of the memory forms:
storage answers at the address.
Formalises R114. -/
def Obligations.RolForms : Prop :=
  ShiftForms 0x2A 0x26 0x36 0x2E 0x3E
    .rolA .rolZp .rolZpX .rolAbs .rolAbsX Claims.rol

/-- All five forms of ROR, with their opcodes and cycles: of A, and of the byte at the effective address in Zero Page,
Zero Page,X, Absolute and Absolute,X, read once and written once. C is the bit shifted out, N and Z describe the
result, all else is unchanged; in the memory forms A is neither read nor written. Premise of the memory forms:
storage answers at the address.
Formalises R115. -/
def Obligations.RorForms : Prop :=
  ShiftForms 0x6A 0x66 0x76 0x6E 0x7E
    .rorA .rorZp .rorZpX .rorAbs .rorAbsX Claims.ror

/-- All eight forms of LDA with opcodes and cycles (the page-crossing cycle included): A becomes the operand, N and Z
come from it, pc advances by the length, all else is unchanged. Premise of the memory forms: storage answers at the
pointer bytes and at the effective address.
Formalises R117. -/
def Obligations.LdaForms : Prop :=
  ReadImm 0xA9 .ldaImm always (fun m s => { s with a := m, p := nz m s.p }) ∧
  ReadZp 0xA5 .ldaZp always (fun m s => { s with a := m, p := nz m s.p }) ∧
  ReadZpX 0xB5 .ldaZpX always (fun m s => { s with a := m, p := nz m s.p }) ∧
  ReadAbs 0xAD .ldaAbs always (fun m s => { s with a := m, p := nz m s.p }) ∧
  ReadAbsX 0xBD .ldaAbsX always (fun m s => { s with a := m, p := nz m s.p }) ∧
  ReadAbsY 0xB9 .ldaAbsY always (fun m s => { s with a := m, p := nz m s.p }) ∧
  ReadIndX 0xA1 .ldaIndX always (fun m s => { s with a := m, p := nz m s.p }) ∧
  ReadIndY 0xB1 .ldaIndY always (fun m s => { s with a := m, p := nz m s.p })

/-- All forms of LDX (indexed by Y) and LDY (indexed by X) with opcodes and cycles: the register becomes the operand, N
and Z come from it, pc advances by the length, all else is unchanged. Premise of the memory forms: storage answers
at the effective address.
Formalises R118, R119. -/
def Obligations.LdxLdyForms : Prop :=
  ReadImm 0xA2 .ldxImm always (fun m s => { s with x := m, p := nz m s.p }) ∧
  ReadZp 0xA6 .ldxZp always (fun m s => { s with x := m, p := nz m s.p }) ∧
  ReadZpY 0xB6 .ldxZpY always (fun m s => { s with x := m, p := nz m s.p }) ∧
  ReadAbs 0xAE .ldxAbs always (fun m s => { s with x := m, p := nz m s.p }) ∧
  ReadAbsY 0xBE .ldxAbsY always (fun m s => { s with x := m, p := nz m s.p }) ∧
  ReadImm 0xA0 .ldyImm always (fun m s => { s with y := m, p := nz m s.p }) ∧
  ReadZp 0xA4 .ldyZp always (fun m s => { s with y := m, p := nz m s.p }) ∧
  ReadZpX 0xB4 .ldyZpX always (fun m s => { s with y := m, p := nz m s.p }) ∧
  ReadAbs 0xAC .ldyAbs always (fun m s => { s with y := m, p := nz m s.p }) ∧
  ReadAbsX 0xBC .ldyAbsX always (fun m s => { s with y := m, p := nz m s.p })

/-- All thirteen store forms with opcodes and cycles (indexed stores always take the longer count): the register's byte
is stored at the effective address where the map has ram and discarded elsewhere (at rom as U8 says; at an absent
address that is the model's reading, log 6), pc advances by the length, no register and no flag changes. Premise:
the effective address is no device and storage answers at the pointer bytes.
Rests on 44_load_store.md (R120, R121, R122, R123), 93_implementation_defined.md U8, log 6. -/
def Obligations.StoreForms : Prop :=
  StoreZp 0x85 .staZp State.a ∧
  StoreZpX 0x95 .staZpX State.a ∧
  StoreAbs 0x8D .staAbs State.a ∧
  StoreAbsX 0x9D .staAbsX State.a ∧
  StoreAbsY 0x99 .staAbsY State.a ∧
  StoreIndX 0x81 .staIndX State.a ∧
  StoreIndY 0x91 .staIndY State.a ∧
  StoreZp 0x86 .stxZp State.x ∧
  StoreZpY 0x96 .stxZpY State.x ∧
  StoreAbs 0x8E .stxAbs State.x ∧
  StoreZp 0x84 .styZp State.y ∧
  StoreZpX 0x94 .styZpX State.y ∧
  StoreAbs 0x8C .styAbs State.y

/-- All eight forms of ADC with opcodes and cycles. Where arithmetic is binary (D = 0, or D ignored): A is the low byte
of A + m + C, C its bit 8, V the signed overflow, N and Z from the result. Where it is decimal (D = 1 under
nmos_bcd): as the NMOS algorithm of R136. All else is unchanged. Premise of the memory forms: storage answers at the
pointer bytes and at the effective address.
Formalises R124, R136. -/
def Obligations.AdcForms : Prop :=
  ReadImm 0x69 .adcImm binaryArith Claims.adc ∧
  ReadZp 0x65 .adcZp binaryArith Claims.adc ∧
  ReadZpX 0x75 .adcZpX binaryArith Claims.adc ∧
  ReadAbs 0x6D .adcAbs binaryArith Claims.adc ∧
  ReadAbsX 0x7D .adcAbsX binaryArith Claims.adc ∧
  ReadAbsY 0x79 .adcAbsY binaryArith Claims.adc ∧
  ReadIndX 0x61 .adcIndX binaryArith Claims.adc ∧
  ReadIndY 0x71 .adcIndY binaryArith Claims.adc ∧
  ReadImm 0x69 .adcImm decimalArith adcBcd ∧
  ReadZp 0x65 .adcZp decimalArith adcBcd ∧
  ReadZpX 0x75 .adcZpX decimalArith adcBcd ∧
  ReadAbs 0x6D .adcAbs decimalArith adcBcd ∧
  ReadAbsX 0x7D .adcAbsX decimalArith adcBcd ∧
  ReadAbsY 0x79 .adcAbsY decimalArith adcBcd ∧
  ReadIndX 0x61 .adcIndX decimalArith adcBcd ∧
  ReadIndY 0x71 .adcIndY decimalArith adcBcd

/-- All eight forms of SBC with opcodes and cycles. Where arithmetic is binary: A is the low byte of A - m - (1 - C), C
says no borrow, V the signed overflow, N and Z from the result. Where it is decimal: A as the NMOS algorithm of
R137, flags as the binary SBC. All else is unchanged. Premise of the memory forms: storage answers at the pointer
bytes and at the effective address.
Formalises R125, R137. -/
def Obligations.SbcForms : Prop :=
  ReadImm 0xE9 .sbcImm binaryArith Claims.sbc ∧
  ReadZp 0xE5 .sbcZp binaryArith Claims.sbc ∧
  ReadZpX 0xF5 .sbcZpX binaryArith Claims.sbc ∧
  ReadAbs 0xED .sbcAbs binaryArith Claims.sbc ∧
  ReadAbsX 0xFD .sbcAbsX binaryArith Claims.sbc ∧
  ReadAbsY 0xF9 .sbcAbsY binaryArith Claims.sbc ∧
  ReadIndX 0xE1 .sbcIndX binaryArith Claims.sbc ∧
  ReadIndY 0xF1 .sbcIndY binaryArith Claims.sbc ∧
  ReadImm 0xE9 .sbcImm decimalArith sbcBcd ∧
  ReadZp 0xE5 .sbcZp decimalArith sbcBcd ∧
  ReadZpX 0xF5 .sbcZpX decimalArith sbcBcd ∧
  ReadAbs 0xED .sbcAbs decimalArith sbcBcd ∧
  ReadAbsX 0xFD .sbcAbsX decimalArith sbcBcd ∧
  ReadAbsY 0xF9 .sbcAbsY decimalArith sbcBcd ∧
  ReadIndX 0xE1 .sbcIndX decimalArith sbcBcd ∧
  ReadIndY 0xF1 .sbcIndY decimalArith sbcBcd

/-- With D = 1 and DecimalMode = refuse no form of ADC or SBC answers a next state; ADC #m and SBC #m are refused as
decimal arithmetic.
Rests on 45_arith_logic_compare.md 2 (R126), 60_exceptions.md 1 (R172). -/
def Obligations.DecimalRefusedByMode : Prop :=
  ∀ s : State, s.p.d = true → s.params.decimal = .refuse →
    (∀ m, exec (.adcImm m) s = .refused .decimalArithmetic ∧ exec (.sbcImm m) s = .refused .decimalArithmetic) ∧
    ∀ (i : Instr) (t : State), i.mnemonic ∈ [Mnemonic.adc, .sbc] → exec i s ≠ .next t

/-- All 24 forms with opcodes and cycles: A becomes the bitwise and, or, or exclusive or of A and the operand, N and Z
come from it, C and V are unchanged, pc advances by the length. Premise of the memory forms: storage answers at the
pointer bytes and at the effective address.
Formalises R127, R128, R129. -/
def Obligations.LogicForms : Prop :=
  ReadImm 0x29 .andImm always (fun m s => { s with a := s.a &&& m, p := nz (s.a &&& m) s.p }) ∧
  ReadZp 0x25 .andZp always (fun m s => { s with a := s.a &&& m, p := nz (s.a &&& m) s.p }) ∧
  ReadZpX 0x35 .andZpX always (fun m s => { s with a := s.a &&& m, p := nz (s.a &&& m) s.p }) ∧
  ReadAbs 0x2D .andAbs always (fun m s => { s with a := s.a &&& m, p := nz (s.a &&& m) s.p }) ∧
  ReadAbsX 0x3D .andAbsX always (fun m s => { s with a := s.a &&& m, p := nz (s.a &&& m) s.p }) ∧
  ReadAbsY 0x39 .andAbsY always (fun m s => { s with a := s.a &&& m, p := nz (s.a &&& m) s.p }) ∧
  ReadIndX 0x21 .andIndX always (fun m s => { s with a := s.a &&& m, p := nz (s.a &&& m) s.p }) ∧
  ReadIndY 0x31 .andIndY always (fun m s => { s with a := s.a &&& m, p := nz (s.a &&& m) s.p }) ∧
  ReadImm 0x09 .oraImm always (fun m s => { s with a := s.a ||| m, p := nz (s.a ||| m) s.p }) ∧
  ReadZp 0x05 .oraZp always (fun m s => { s with a := s.a ||| m, p := nz (s.a ||| m) s.p }) ∧
  ReadZpX 0x15 .oraZpX always (fun m s => { s with a := s.a ||| m, p := nz (s.a ||| m) s.p }) ∧
  ReadAbs 0x0D .oraAbs always (fun m s => { s with a := s.a ||| m, p := nz (s.a ||| m) s.p }) ∧
  ReadAbsX 0x1D .oraAbsX always (fun m s => { s with a := s.a ||| m, p := nz (s.a ||| m) s.p }) ∧
  ReadAbsY 0x19 .oraAbsY always (fun m s => { s with a := s.a ||| m, p := nz (s.a ||| m) s.p }) ∧
  ReadIndX 0x01 .oraIndX always (fun m s => { s with a := s.a ||| m, p := nz (s.a ||| m) s.p }) ∧
  ReadIndY 0x11 .oraIndY always (fun m s => { s with a := s.a ||| m, p := nz (s.a ||| m) s.p }) ∧
  ReadImm 0x49 .eorImm always (fun m s => { s with a := s.a ^^^ m, p := nz (s.a ^^^ m) s.p }) ∧
  ReadZp 0x45 .eorZp always (fun m s => { s with a := s.a ^^^ m, p := nz (s.a ^^^ m) s.p }) ∧
  ReadZpX 0x55 .eorZpX always (fun m s => { s with a := s.a ^^^ m, p := nz (s.a ^^^ m) s.p }) ∧
  ReadAbs 0x4D .eorAbs always (fun m s => { s with a := s.a ^^^ m, p := nz (s.a ^^^ m) s.p }) ∧
  ReadAbsX 0x5D .eorAbsX always (fun m s => { s with a := s.a ^^^ m, p := nz (s.a ^^^ m) s.p }) ∧
  ReadAbsY 0x59 .eorAbsY always (fun m s => { s with a := s.a ^^^ m, p := nz (s.a ^^^ m) s.p }) ∧
  ReadIndX 0x41 .eorIndX always (fun m s => { s with a := s.a ^^^ m, p := nz (s.a ^^^ m) s.p }) ∧
  ReadIndY 0x51 .eorIndY always (fun m s => { s with a := s.a ^^^ m, p := nz (s.a ^^^ m) s.p })

/-- All fourteen forms with opcodes and cycles: C is the unsigned register >= m, Z equality, N bit 7 of the difference;
no register, V, I or D is written. Premise of the memory forms: storage answers at the pointer bytes and at the
effective address.
Formalises R130, R131, R132. -/
def Obligations.CompareForms : Prop :=
  ReadImm 0xC9 .cmpImm always (fun m s => { s with p := compared s.a m s.p }) ∧
  ReadZp 0xC5 .cmpZp always (fun m s => { s with p := compared s.a m s.p }) ∧
  ReadZpX 0xD5 .cmpZpX always (fun m s => { s with p := compared s.a m s.p }) ∧
  ReadAbs 0xCD .cmpAbs always (fun m s => { s with p := compared s.a m s.p }) ∧
  ReadAbsX 0xDD .cmpAbsX always (fun m s => { s with p := compared s.a m s.p }) ∧
  ReadAbsY 0xD9 .cmpAbsY always (fun m s => { s with p := compared s.a m s.p }) ∧
  ReadIndX 0xC1 .cmpIndX always (fun m s => { s with p := compared s.a m s.p }) ∧
  ReadIndY 0xD1 .cmpIndY always (fun m s => { s with p := compared s.a m s.p }) ∧
  ReadImm 0xE0 .cpxImm always (fun m s => { s with p := compared s.x m s.p }) ∧
  ReadZp 0xE4 .cpxZp always (fun m s => { s with p := compared s.x m s.p }) ∧
  ReadAbs 0xEC .cpxAbs always (fun m s => { s with p := compared s.x m s.p }) ∧
  ReadImm 0xC0 .cpyImm always (fun m s => { s with p := compared s.y m s.p }) ∧
  ReadZp 0xC4 .cpyZp always (fun m s => { s with p := compared s.y m s.p }) ∧
  ReadAbs 0xCC .cpyAbs always (fun m s => { s with p := compared s.y m s.p })

/-- Both forms of BIT with opcodes and cycles: Z says that A AND m is 0, N and V copy bits 7 and 6 of the memory byte;
A, memory, C, I and D are unchanged. Premise: storage answers at the effective address.
Formalises R133. -/
def Obligations.BitForms : Prop :=
  ReadZp 0x24 .bitZp always (fun m s => { s with p := { s.p with z := decide (s.a &&& m = 0), n := m.getLsbD 7, v := m.getLsbD 6 } }) ∧
  ReadAbs 0x2C .bitAbs always (fun m s => { s with p := { s.p with z := decide (s.a &&& m = 0), n := m.getLsbD 7, v := m.getLsbD 6 } })

/-- All eight forms with opcodes and cycles: the byte is read once, changed by one modulo 256 and written once, N and Z
describe the byte written, C, V, I, D and every register are unchanged. Premise: storage answers at the effective
address.
Formalises R138, R139. -/
def Obligations.IncDecForms : Prop :=
  ModZp 0xE6 .incZp (counted 1) ∧
  ModZpX 0xF6 .incZpX (counted 1) ∧
  ModAbs 0xEE .incAbs (counted 1) ∧
  ModAbsX 0xFE .incAbsX (counted 1) ∧
  ModZp 0xC6 .decZp (counted (-1)) ∧
  ModZpX 0xD6 .decZpX (counted (-1)) ∧
  ModAbs 0xCE .decAbs (counted (-1)) ∧
  ModAbsX 0xDE .decAbsX (counted (-1))

/-- JMP $hhll completes in every state with pc = hhll; JMP ($hhll) completes with pc from the bytes at hh:ll (low) and
hh:((ll + 1) AND $FF) (high), where storage answers at both. Opcodes and cycles (3 and 5) included; nothing but pc
changes.
Formalises R141, R142. -/
def Obligations.JmpForms : Prop :=
  (∀ l h : Byte, Decodes [0x4C, l, h] (.jmpAbs (wordOf h l)) ∧ ∀ s : State,
    exec (.jmpAbs (wordOf h l)) s = .next { s with pc := wordOf h l } ∧
    cycles (.jmpAbs (wordOf h l)) s = .next 3) ∧
  (∀ l h : Byte, Decodes [0x6C, l, h] (.jmpInd (wordOf h l)) ∧ ∀ s : State,
    s.Plain (wordOf h l) → s.Plain (wordOf h (l + 1)) →
    exec (.jmpInd (wordOf h l)) s =
      .next { s with pc := wordOf (s.peek (wordOf h (l + 1))) (s.peek (wordOf h l)) } ∧
    cycles (.jmpInd (wordOf h l)) s = .next 5)

/-- JSR $hhll: opcode and cycles; where its pushes do not overwrite its own third byte and the two stack addresses are
no device, it completes with the high byte of pc + 2 stored at $01:S, the low byte at $01:(S - 1), S down by 2, pc =
hhll, no flag changed. Where they overwrite it, it is refused (93_implementation_defined.md U19). The model's own
readings: it is refused only where that byte is ram and completes where it is rom or absent, log 15; the refusal
comes before any device access by the pushes, log 22; a byte pushed at an absent address is discarded, log 6.
Rests on 47_control_flow.md 2 (R143), 93_implementation_defined.md U19, log 6, log 15, log 22. -/
def Obligations.JsrPushesReturnAddress : Prop :=
  ∀ l h : Byte, Decodes [0x20, l, h] (.jsr (wordOf h l)) ∧ ∀ s : State,
    cycles (.jsr (wordOf h l)) s = .next 6 ∧
    (overwritesOperand s → exec (.jsr (wordOf h l)) s = .refused (.jsrOverwritesOperand s.pc)) ∧
    (¬ overwritesOperand s → s.kindAt (stackByte s.sp) ≠ .device → s.kindAt (stackByte (s.sp - 1)) ≠ .device →
      exec (.jsr (wordOf h l)) s = .next { s with
        mem := stored s [(stackByte s.sp, hiByte (s.pc + 2)), (stackByte (s.sp - 1), loByte (s.pc + 2))]
        sp := s.sp - 2
        pc := wordOf h l })

/-- RTS: opcode and cycles; where storage answers at $01:(S + 1) and $01:(S + 2) it completes with pc = (the word there)
+ 1 modulo 65536 and S up by 2 with wrap; flags and memory are unchanged.
Formalises R144. -/
def Obligations.RtsPullsReturnAddress : Prop :=
  Decodes [0x60] .rts ∧ ∀ s : State, s.Plain (stackByte (s.sp + 1)) → s.Plain (stackByte (s.sp + 2)) →
    exec .rts s = .next { s with
      pc := wordOf (s.peek (stackByte (s.sp + 2))) (s.peek (stackByte (s.sp + 1))) + 1, sp := s.sp + 2 } ∧
    cycles .rts s = .next 6

/-- BRK: opcode and cycles; where the three stack addresses are no device and storage answers at the vector it
completes: high and low byte of pc + 2 and then the status byte with B = 1 and the old I are stored below each other
from $01:S, S goes down by 3 with wrap, I is set, pc is M[$FFFF]:M[$FFFE]; D and everything else is unchanged,
whatever I was. That a byte pushed at an absent address is discarded is the model's reading, log 6.
Rests on 47_control_flow.md 3 (R146), 60_exceptions.md 1 and 2 (R161, R162), log 6. -/
def Obligations.BrkTakesTheTrap : Prop :=
  Decodes [0x00] .brk ∧ ∀ s : State, s.kindAt (stackByte s.sp) ≠ .device →
    s.kindAt (stackByte (s.sp - 1)) ≠ .device → s.kindAt (stackByte (s.sp - 2)) ≠ .device →
    s.Plain 0xFFFE → s.Plain 0xFFFF →
    exec .brk s = .next { s with
      mem := stored s [(stackByte s.sp, hiByte (s.pc + 2)), (stackByte (s.sp - 1), loByte (s.pc + 2)),
        (stackByte (s.sp - 2), statusByte true s.p)]
      sp := s.sp - 3
      p := { s.p with i := true }
      pc := wordOf (s.peek 0xFFFF) (s.peek 0xFFFE) } ∧ cycles .brk s = .next 7

/-- RTI: opcode and cycles; where storage answers at the three bytes above S it completes with the flags from bits 7, 6,
3, 2, 1, 0 of the first, pc from the second (low) and third (high), S up by 3 with wrap; memory and registers are
unchanged.
Formalises R145. -/
def Obligations.RtiRestoresFlagsAndPc : Prop :=
  Decodes [0x40] .rti ∧ ∀ s : State, s.Plain (stackByte (s.sp + 1)) → s.Plain (stackByte (s.sp + 2)) →
    s.Plain (stackByte (s.sp + 3)) →
    let b := s.peek (stackByte (s.sp + 1))
    exec .rti s = .next { s with
      p := { n := b.getLsbD 7, v := b.getLsbD 6, d := b.getLsbD 3, i := b.getLsbD 2, z := b.getLsbD 1, c := b.getLsbD 0 }
      pc := wordOf (s.peek (stackByte (s.sp + 3))) (s.peek (stackByte (s.sp + 2)))
      sp := s.sp + 3 } ∧ cycles .rti s = .next 6

/-- The opcode $EA decodes to NOP, which takes 2 cycles and in every state completes with pc advanced by 1 and nothing
else changed.
Formalises R147. -/
def Obligations.NopOnlyAdvancesPc : Prop :=
  OneByte 0xEA .nop 2 (fun s => s)

/-- For each of the eight branches and every displacement byte: opcode, and in every state it completes with pc = pc + 2
plus the sign-extended displacement, modulo 65536, when its flag has its value, and pc + 2 otherwise; 2 cycles when
not taken, 3 when taken, 4 when the target is in another page than the next instruction. Nothing else changes.
Formalises R149, R150, R151, R152, R153, R154, R155, R156. -/
def Obligations.BranchForms : Prop :=
  Branches 0x90 .bcc (fun p => !p.c) ∧
  Branches 0xB0 .bcs (fun p => p.c) ∧
  Branches 0xF0 .beq (fun p => p.z) ∧
  Branches 0xD0 .bne (fun p => !p.z) ∧
  Branches 0x30 .bmi (fun p => p.n) ∧
  Branches 0x10 .bpl (fun p => !p.n) ∧
  Branches 0x50 .bvc (fun p => !p.v) ∧
  Branches 0x70 .bvs (fun p => p.v)

/-- When the next sample asserts IRQ and not RESET, no NMI is latched or edges, and i_poll = 0, the step is the IRQ
entry: the high and low byte of pc and the status byte with B = 0 are pushed, I is set, i_poll is 1, pc is
M[$FFFF]:M[$FFFE], the sample is taken in, and all else is unchanged. The model's choices and readings: the lines as
one sample a boundary, log 10, an NMI edge as a level against the sample before, log 11, the entry as a step of its
own, log 12, i_poll = 1 after it, log 13, a byte pushed at an absent address discarded, log 6. Premise: the stack
addresses are no device, storage answers at the vector.
Rests on 60_exceptions.md 1 to 3 (R160, R162, R164, R166), log 6, log 10, log 11, log 12, log 13. -/
def Obligations.IrqEntersHandler : Prop :=
  ∀ (s : State) (l : Lines) (rest : List Lines), s.inputs = l :: rest → l.reset = false → s.nmiPending = false →
    (l.nmi = true → s.lines.nmi = true) → l.irq = true → s.iPoll = false →
    s.kindAt (stackByte s.sp) ≠ .device → s.kindAt (stackByte (s.sp - 1)) ≠ .device →
    s.kindAt (stackByte (s.sp - 2)) ≠ .device → s.Plain 0xFFFE → s.Plain 0xFFFF →
    step s = .next { s with
      inputs := rest
      lines := l
      mem := stored s [(stackByte s.sp, hiByte s.pc), (stackByte (s.sp - 1), loByte s.pc),
        (stackByte (s.sp - 2), statusByte false s.p)]
      sp := s.sp - 3
      p := { s.p with i := true }
      iPoll := true
      pc := wordOf (s.peek 0xFFFF) (s.peek 0xFFFE) }

/-- When the next sample does not assert RESET and an NMI is latched or its line newly asserted, the step is the NMI
entry: pc and the status byte with B = 0 are pushed, I is set, i_poll is 1, the latch is cleared, pc is
M[$FFFB]:M[$FFFA]; neither I, i_poll nor an asserted IRQ line prevents it. The model's choices and readings: the
lines as one sample a boundary, log 10, the edge as a level against the sample before, log 11, the entry as a step
of its own, log 12, i_poll = 1 after it, log 13, a byte pushed at an absent address discarded, log 6. Premise: the
stack addresses are no device, storage answers at the vector.
Rests on 60_exceptions.md 1 to 3 (R160, R162, R163, R166), log 6, log 10, log 11, log 12, log 13. -/
def Obligations.NmiEntersHandler : Prop :=
  ∀ (s : State) (l : Lines) (rest : List Lines), s.inputs = l :: rest → l.reset = false →
    (s.nmiPending = true ∨ (l.nmi = true ∧ s.lines.nmi = false)) →
    s.kindAt (stackByte s.sp) ≠ .device → s.kindAt (stackByte (s.sp - 1)) ≠ .device →
    s.kindAt (stackByte (s.sp - 2)) ≠ .device → s.Plain 0xFFFA → s.Plain 0xFFFB →
    step s = .next { s with
      inputs := rest
      lines := l
      nmiPending := false
      mem := stored s [(stackByte s.sp, hiByte s.pc), (stackByte (s.sp - 1), loByte s.pc),
        (stackByte (s.sp - 2), statusByte false s.p)]
      sp := s.sp - 3
      p := { s.p with i := true }
      iPoll := true
      pc := wordOf (s.peek 0xFFFB) (s.peek 0xFFFA) }

/-- When the next sample asserts RESET, whatever else is asserted, the step completes with I = 1, i_poll = 1, pc =
M[$FFFD]:M[$FFFC], nmi_pending = 0 and memory and parameters unchanged; where the harness supplies reset values the
other registers and flags are those. The model's choices and readings: the lines as one sample a boundary, log 10,
the RESET input as a level, so that it is taken whether or not the sample before asserted it, log 26, the parameters
in the state, log 5, RESET as a step of its own, log 12, i_poll = 1 after it, log 13, an NMI edge of the same sample
lost, log 14. Premise: storage answers at the vector.
Rests on 60_exceptions.md 1 to 3 (R165, R166), 70_reset_and_hazards.md 1 (R180), 00_scope.md 4 (R5), log 5, log 10,
log 12, log 13, log 14, log 26. -/
def Obligations.ResetEventRestarts : Prop :=
  ∀ (s : State) (l : Lines) (rest : List Lines), s.inputs = l :: rest → l.reset = true →
    s.Plain 0xFFFC → s.Plain 0xFFFD →
    ∃ t, step s = .next t ∧ t.p.i = true ∧ t.iPoll = true ∧ t.nmiPending = false ∧
      t.pc = wordOf (s.peek 0xFFFD) (s.peek 0xFFFC) ∧ t.mem = s.mem ∧ t.params = s.params ∧
      t.lines = l ∧ t.inputs = rest ∧
      ∀ r, s.params.resetState = some r →
        t.a = r.a ∧ t.x = r.x ∧ t.y = r.y ∧ t.sp = r.sp ∧
        t.p = { c := r.c, z := r.z, i := true, d := r.d, v := r.v, n := r.n }

/-- With no RESET asserted, no NMI latched and the NMI line either released or asserted since the sample before, the
boundary is quiet when i_poll = 1 or IRQ is not asserted. The lines as one sample a boundary and the NMI edge as a
level against the sample before are the model's form, logs 10 and 11.
Rests on 60_exceptions.md 2 (R163, R164), log 10, log 11. -/
def Obligations.MaskedOrHeldLinesAreQuiet : Prop :=
  ∀ (s : State) (l : Lines) (rest : List Lines), s.inputs = l :: rest → l.reset = false → s.nmiPending = false →
    (l.nmi = true → s.lines.nmi = true) → (l.irq = true → s.iPoll = true) → s.Quiet

/-- When a quiet step from a state with I = 1 executes CLI (its byte is at pc, answered by storage), I is 0 afterwards,
yet the next boundary is quiet even with IRQ asserted, unless RESET or an NMI edge comes: at least one more
instruction runs first. And when that next instruction is a NOP (byte $EA at pc, answered by storage) and its step
goes on, i_poll is 0 after it: the IRQ is unmasked for the boundary that follows the NOP. The lines as one sample a
boundary and the NMI edge as a level against the sample before are the model's form, logs 10 and 11.
Rests on 60_exceptions.md 2 (R164), log 10, log 11. -/
def Obligations.CliLetsOneInstructionRun : Prop :=
  ∀ s t : State, s.Quiet → s.Plain s.pc → s.peek s.pc = 0x58 → s.p.i = true → step s = .next t →
    t.p.i = false ∧
    ∀ (l : Lines) (rest : List Lines), l.reset = false → (l.nmi = true → t.lines.nmi = true) →
      ({ t with inputs := l :: rest } : State).Quiet ∧
      ∀ u : State, t.peek t.pc = 0xEA → t.Plain t.pc → step { t with inputs := l :: rest } = .next u → u.iPoll = false

/-- State.reset has pc from the RESET vector in its memory, I = 1 and i_poll = 1, nmi_pending = 0, no line asserted and
none to come, and every address ram. The memory itself (nothing loaded) and i_poll are the model's, logs 3 and 13,
and so are the map and the inputs as fields of the state, logs 5 and 10; the registers the spec leaves unspecified
are not mentioned.
Rests on 10_state.md 8 (R23, R24), 70_reset_and_hazards.md 1 (R180), 00_scope.md 4 (R5), log 3, log 5, log 10, log
13. -/
def Obligations.StateAfterReset : Prop :=
  State.reset.pc = State.reset.mem.read16 0xFFFC ∧ State.reset.p.i = true ∧ State.reset.iPoll = true ∧
  State.reset.nmiPending = false ∧ State.reset.lines = Lines.released ∧ State.reset.inputs = [] ∧
  ∀ a : Word, State.reset.kindAt a = .ram

/-- In a state with canonical memory whose two stack addresses are ram, if JSR answers t then RTS on t answers t with pc
= the JSR's address + 3 and S as before the JSR, whatever S was (the wraps included).
Rests on 47_control_flow.md 2 (R143, R144), 20_memory.md 3 (R38, R39). -/
def Obligations.JsrThenRtsReturns : Prop :=
  ∀ (s t : State) (addr : Word), Inv s → s.kindAt (stackByte s.sp) = .ram → s.kindAt (stackByte (s.sp - 1)) = .ram →
    exec (.jsr addr) s = .next t → exec .rts t = .next { t with pc := s.pc + 3, sp := s.sp }

/-- In a state with canonical memory whose three stack addresses are ram, if BRK answers t then RTI on t answers t with
pc = the BRK's address + 2 and the flags and S as before the BRK.
Rests on 60_exceptions.md 1 to 3 (R161, R162, R167). -/
def Obligations.BrkThenRtiReturns : Prop :=
  ∀ s t : State, Inv s → s.kindAt (stackByte s.sp) = .ram → s.kindAt (stackByte (s.sp - 1)) = .ram →
    s.kindAt (stackByte (s.sp - 2)) = .ram → exec .brk s = .next t →
    exec .rti t = .next { t with pc := s.pc + 2, sp := s.sp, p := s.p }

/-- In a state with canonical memory whose three stack addresses are ram, if the boundary takes IRQ or NMI and the step
answers t, then RTI on t answers t with pc, flags and S those of the interrupted program; the entry changed neither
A, X nor Y. That the state after this one step is the entry alone, before the handler's first instruction, is the
model's choice, log 12.
Rests on 60_exceptions.md 2 and 3 (R162, R163, R164, R167, R169), log 12. -/
def Obligations.InterruptThenRtiResumes : Prop :=
  ∀ s t : State, Inv s → s.kindAt (stackByte s.sp) = .ram → s.kindAt (stackByte (s.sp - 1)) = .ram →
    s.kindAt (stackByte (s.sp - 2)) = .ram →
    (pendingEvent (sampleLines s) = .irq ∨ pendingEvent (sampleLines s) = .nmi) → step s = .next t →
    t.a = s.a ∧ t.x = s.x ∧ t.y = s.y ∧ exec .rti t = .next { t with pc := s.pc, sp := s.sp, p := s.p }

/-- For r = A with CMP #m, r = X with CPX #m and r = Y with CPY #m: the comparison completes in every state with V
unchanged, and on its result t: BCC is taken exactly when r < m unsigned, BCS when r >= m, BEQ when r = m, BNE when
r != m; BMI is taken when the signed r < m if the signed difference fits -128..127 and when not r < m otherwise, and
BPL exactly when BMI is not.
Rests on 45_arith_logic_compare.md 4 (R130, R131, R132, R135). -/
def Obligations.CompareThenBranch : Prop :=
  ∀ (s : State) (m : Byte) (k : Int) (f : (Byte → Instr) × Byte),
    f ∈ [(Instr.cmpImm, s.a), (Instr.cpxImm, s.x), (Instr.cpyImm, s.y)] →
    ∃ t, exec (f.1 m) s = .next t ∧ t.p.v = s.p.v ∧
      let r := f.2
      let go (taken : Prop) [Decidable taken] : Result :=
        .next { t with pc := if taken then t.pc + 2 + BitVec.ofInt 16 k else t.pc + 2 }
      let fits := -128 ≤ r.toInt - m.toInt ∧ r.toInt - m.toInt ≤ 127
      exec (.bcc k) t = go (r.toNat < m.toNat) ∧ exec (.bcs k) t = go (m.toNat ≤ r.toNat) ∧
      exec (.beq k) t = go (r = m) ∧ exec (.bne k) t = go (r ≠ m) ∧
      (fits → exec (.bmi k) t = go (r.toInt < m.toInt) ∧ exec (.bpl k) t = go (m.toInt ≤ r.toInt)) ∧
      (¬ fits → exec (.bmi k) t = go (m.toInt ≤ r.toInt) ∧ exec (.bpl k) t = go (r.toInt < m.toInt))

/-- With D = 0, ADC #m and SBC #m complete; A is the exact sum or difference modulo 256; C says that the exact sum
exceeds 255, or that the exact difference is not negative; V says that the signed sum or difference is outside
-128..127.
Rests on 45_arith_logic_compare.md 1 (R134). -/
def Obligations.ArithmeticReportsBothOutcomes : Prop :=
  ∀ (s : State) (m : Byte), s.p.d = false →
    (∃ t, exec (.adcImm m) s = .next t ∧
      t.a.toNat = (s.a.toNat + m.toNat + one s.p.c) % 256 ∧
      (t.p.c = true ↔ 255 < s.a.toNat + m.toNat + one s.p.c) ∧
      (t.p.v = true ↔ s.a.toInt + m.toInt + one s.p.c < -128 ∨ 127 < s.a.toInt + m.toInt + one s.p.c)) ∧
    (∃ t, exec (.sbcImm m) s = .next t ∧
      (t.a.toNat : Int) = ((s.a.toNat : Int) - m.toNat - (1 - one s.p.c)) % 256 ∧
      (t.p.c = true ↔ 0 ≤ (s.a.toNat : Int) - m.toNat - (1 - one s.p.c)) ∧
      (t.p.v = true ↔
        s.a.toInt - m.toInt - (1 - one s.p.c) < -128 ∨ 127 < s.a.toInt - m.toInt - (1 - one s.p.c)))

/-- In every state with D = 0, SBC #m and ADC #(m XOR $FF) give the same outcome: the same A, the same flags, the same
pc.
Rests on 45_arith_logic_compare.md 2 (R125). -/
def Obligations.SbcIsAdcOfComplement : Prop :=
  ∀ (s : State) (m : Byte), s.p.d = false → exec (.sbcImm m) s = exec (.adcImm (m ^^^ 0xFF)) s

/-- With D = 1 under nmos_bcd, for decimal numbers u and w below 100 in A and in the operand: ADC leaves the digits of
(u + w + C) mod 100 in A and C says that the sum is at least 100; SBC leaves the digits of (u - w - (1 - C)) mod 100
and C says that the difference is not negative.
Rests on 45_arith_logic_compare.md 2 (R136, R137). -/
def Obligations.DecimalArithmeticOnDigits : Prop :=
  ∀ (s : State) (u w : Nat), u < 100 → w < 100 → s.a = bcd u → s.p.d = true → s.params.decimal = .nmosBcd →
    (∃ t, exec (.adcImm (bcd w)) s = .next t ∧ t.a = bcd ((u + w + one s.p.c) % 100) ∧
      (t.p.c = true ↔ 100 ≤ u + w + one s.p.c)) ∧
    (∃ t, exec (.sbcImm (bcd w)) s = .next t ∧ t.a = bcd ((99 + u - w + one s.p.c) % 100) ∧
      (t.p.c = true ↔ w + (1 - one s.p.c) ≤ u))

/-- The rotation through C is a 9-bit rotation: applying it nine times gives the byte and C back, and rotating right
undoes rotating left.
Rests on 43_shift_rotate.md (R114, R115). -/
def Obligations.NineRotatesRestore : Prop :=
  ∀ (m : Byte) (c : Bool),
    (List.range 9).foldl (fun q _ => rolOp q.1 q.2) (m, c) = (m, c) ∧
    rorOp (rolOp m c).1 (rolOp m c).2 = (m, c)

/-- With canonical memory, STA to the address right after itself, where the map has ram, completes and leaves A at the
address pc then holds: the next fetch reads the stored byte.
Rests on 20_memory.md 8 (R45), 20_memory.md 6 (R42). -/
def Obligations.StoreIsSeenByNextFetch : Prop :=
  ∀ s : State, Inv s → s.kindAt (s.pc + 3) = .ram →
    ∃ t, exec (.staAbs (s.pc + 3)) s = .next t ∧ t.pc = s.pc + 3 ∧ t.Plain t.pc ∧ t.peek t.pc = s.a

/-- Whatever the state and the map, if an instruction other than STA, STX, STY, INC, DEC, PHA, PHP, JSR, BRK and the
memory forms of the shifts answers a next state, every address reads as before.
Rests on 10_state.md 7 (R22), 40_addressing_modes.md 15 (R86). -/
def Obligations.NothingStoredByOthers : Prop :=
  ∀ (i : Instr) (s t : State), storesNothing i → exec i s = .next t → ∀ a, t.peek a = s.peek a

/-- For each of the thirteen store forms: if it answers t, its address computation answers an address, every other
address reads as before, and A, X, Y, S and every flag are as before. The address is computed by the function the
meaning uses.
Rests on 44_load_store.md (R123). -/
def Obligations.StoreFrames : Prop :=
  ∀ (d : Byte) (addr : Word) (s t : State) (f : Instr × (State → Answer Word)), f ∈ storeForms d addr →
    exec f.1 s = .next t →
    t.a = s.a ∧ t.x = s.x ∧ t.y = s.y ∧ t.sp = s.sp ∧ t.p = s.p ∧
    ∃ ea, f.2 s = .next ea ∧ ∀ b, b ≠ ea → t.peek b = s.peek b

/-- For each of the 24 memory forms of ASL, LSR, ROL, ROR, INC and DEC: if it answers t, every address but the effective
one reads as before, A, X, Y and S are as before, and so are V, I and D; INC and DEC leave C as well.
Rests on 43_shift_rotate.md (R116), 46_incdec_memory.md (R140). -/
def Obligations.ModifyFrames : Prop :=
  ∀ (d : Byte) (addr : Word) (s t : State) (f : Instr × (State → Word)), f ∈ modifyForms d addr →
    exec f.1 s = .next t →
    t.a = s.a ∧ t.x = s.x ∧ t.y = s.y ∧ t.sp = s.sp ∧ t.p.v = s.p.v ∧ t.p.i = s.p.i ∧ t.p.d = s.p.d ∧
    (f.1.mnemonic ∈ [Mnemonic.inc, .dec] → t.p.c = s.p.c) ∧
    ∀ b, b ≠ f.2 s → t.peek b = s.peek b

/-- If PHA or PHP answers t, every address but $01:S reads as before; for JSR but $01:S and $01:(S - 1); for BRK but
those and $01:(S - 2). A, X and Y are as before, and for PHA, PHP and JSR every flag.
Rests on 20_memory.md 3 (R37, R38), 42_stack_flags.md, 47_control_flow.md 2 and 3 (R143, R146). -/
def Obligations.StackWriteFrames : Prop :=
  ∀ s t : State,
    (∀ i, i = .pha ∨ i = .php → exec i s = .next t →
      t.a = s.a ∧ t.x = s.x ∧ t.y = s.y ∧ t.p = s.p ∧ ∀ b, b ≠ stackByte s.sp → t.peek b = s.peek b) ∧
    (∀ addr, exec (.jsr addr) s = .next t →
      t.a = s.a ∧ t.x = s.x ∧ t.y = s.y ∧ t.p = s.p ∧
      ∀ b, b ≠ stackByte s.sp → b ≠ stackByte (s.sp - 1) → t.peek b = s.peek b) ∧
    (exec .brk s = .next t →
      t.a = s.a ∧ t.x = s.x ∧ t.y = s.y ∧
      ∀ b, b ≠ stackByte s.sp → b ≠ stackByte (s.sp - 1) → b ≠ stackByte (s.sp - 2) → t.peek b = s.peek b)

/-- Whatever the state, if an instruction answers a next state in which A, X, Y or S differs, it is one of those the
access table of R22 lists as writing that register (for A, of the shifts only the accumulator forms).
Rests on 10_state.md 7 (R22). -/
def Obligations.RegisterWriters : Prop :=
  ∀ (i : Instr) (s t : State), exec i s = .next t →
    (t.a ≠ s.a → i.mnemonic ∈ [Mnemonic.lda, .pla, .txa, .tya, .adc, .sbc, .and, .ora, .eor] ∨
      (i.mnemonic ∈ [Mnemonic.asl, .lsr, .rol, .ror] ∧ i.mode = .accumulator)) ∧
    (t.x ≠ s.x → i.mnemonic ∈ [Mnemonic.ldx, .tax, .tsx, .inx, .dex]) ∧
    (t.y ≠ s.y → i.mnemonic ∈ [Mnemonic.ldy, .tay, .iny, .dey]) ∧
    (t.sp ≠ s.sp → i.mnemonic ∈ [Mnemonic.txs, .pha, .php, .pla, .plp, .jsr, .rts, .rti, .brk])

/-- Whatever the state, if an instruction answers a next state in which a flag differs, it is one of those the summary
of flag writes R18 gives an entry for that flag.
Rests on 10_state.md 5 (R18). -/
def Obligations.FlagWriters : Prop :=
  ∀ (i : Instr) (s t : State), exec i s = .next t →
    (t.p.n ≠ s.p.n ∨ t.p.z ≠ s.p.z → i.mnemonic ∈ [Mnemonic.lda, .ldx, .ldy, .tax, .tay, .txa, .tya, .tsx, .inx, .iny,
      .dex, .dey, .inc, .dec, .and, .ora, .eor, .adc, .sbc, .cmp, .cpx, .cpy, .bit, .asl, .rol, .lsr, .ror, .pla, .plp,
      .rti]) ∧
    (t.p.c ≠ s.p.c → i.mnemonic ∈ [Mnemonic.adc, .sbc, .cmp, .cpx, .cpy, .asl, .rol, .lsr, .ror, .plp, .rti, .clc,
      .sec]) ∧
    (t.p.v ≠ s.p.v → i.mnemonic ∈ [Mnemonic.adc, .sbc, .bit, .plp, .rti, .clv]) ∧
    (t.p.i ≠ s.p.i → i.mnemonic ∈ [Mnemonic.cli, .sei, .plp, .rti, .brk]) ∧
    (t.p.d ≠ s.p.d → i.mnemonic ∈ [Mnemonic.cld, .sed, .plp, .rti])

/-- If an instruction other than JMP, JSR, RTS, RTI, BRK and the eight branches answers a next state, pc is its address
plus the length of its mode, modulo 65536; an encoding has that length.
Rests on 10_state.md 4 (R25, R26), 30_encoding.md 1 (R50). -/
def Obligations.PcAdvancesByLength : Prop :=
  ∀ (i : Instr) (s t : State), exec i s = .next t →
    i.mnemonic ∉ [Mnemonic.jmp, .jsr, .rts, .rti, .brk, .bcc, .bcs, .beq, .bne, .bmi, .bpl, .bvc, .bvs] →
    t.pc = s.pc + BitVec.ofNat 16 i.mode.length ∧ (encode i).length = i.mode.length

/-- If the meaning of an instruction answers a next state, nmi_pending, the sampled lines, the inputs to come, i_poll
and the parameters are as before, and the count of free values has not gone down. (i_poll is set at the end of the
step.) The lines and inputs as a list of samples in the state are the model's form, log 10; so are the parameters as
a field of the state, log 5, and the count of free values, log 8.
Rests on 60_exceptions.md 2 (R163, R164), 10_state.md 6 (R21), log 5, log 8, log 10. -/
def Obligations.InstructionsLeaveInterruptStateAlone : Prop :=
  ∀ (i : Instr) (s t : State), exec i s = .next t →
    t.nmiPending = s.nmiPending ∧ t.lines = s.lines ∧ t.inputs = s.inputs ∧ t.iPoll = s.iPoll ∧
    t.params = s.params ∧ s.draws ≤ t.draws
end

