-- ==== Sys2Proof/Laws/State.lean ====
section
/-! SUPPORT. One lemma for each field of each named update of the state. -/

namespace Sys2Proof.Machine

@[simp] theorem State.advance_a (s : State) (n : Word) : (s.advance n).a = s.a := rfl
@[simp] theorem State.advance_x (s : State) (n : Word) : (s.advance n).x = s.x := rfl
@[simp] theorem State.advance_y (s : State) (n : Word) : (s.advance n).y = s.y := rfl
@[simp] theorem State.advance_sp (s : State) (n : Word) : (s.advance n).sp = s.sp := rfl
@[simp] theorem State.advance_pc (s : State) (n : Word) : (s.advance n).pc = s.pc + n := rfl
@[simp] theorem State.advance_p (s : State) (n : Word) : (s.advance n).p = s.p := rfl
@[simp] theorem State.advance_mem (s : State) (n : Word) : (s.advance n).mem = s.mem := rfl
@[simp] theorem State.advance_nmiPending (s : State) (n : Word) : (s.advance n).nmiPending = s.nmiPending := rfl
@[simp] theorem State.advance_iPoll (s : State) (n : Word) : (s.advance n).iPoll = s.iPoll := rfl
@[simp] theorem State.advance_lines (s : State) (n : Word) : (s.advance n).lines = s.lines := rfl
@[simp] theorem State.advance_inputs (s : State) (n : Word) : (s.advance n).inputs = s.inputs := rfl
@[simp] theorem State.advance_params (s : State) (n : Word) : (s.advance n).params = s.params := rfl
@[simp] theorem State.advance_draws (s : State) (n : Word) : (s.advance n).draws = s.draws := rfl

@[simp] theorem State.setReg_a_a (s : State) (v : Byte) : (s.setReg .a v).a = v := rfl
@[simp] theorem State.setReg_a_x (s : State) (v : Byte) : (s.setReg .a v).x = s.x := rfl
@[simp] theorem State.setReg_a_y (s : State) (v : Byte) : (s.setReg .a v).y = s.y := rfl
@[simp] theorem State.setReg_a_sp (s : State) (v : Byte) : (s.setReg .a v).sp = s.sp := rfl
@[simp] theorem State.loadReg_a_a (s : State) (v : Byte) : (s.loadReg .a v).a = v := rfl
@[simp] theorem State.loadReg_a_x (s : State) (v : Byte) : (s.loadReg .a v).x = s.x := rfl
@[simp] theorem State.loadReg_a_y (s : State) (v : Byte) : (s.loadReg .a v).y = s.y := rfl
@[simp] theorem State.loadReg_a_sp (s : State) (v : Byte) : (s.loadReg .a v).sp = s.sp := rfl
@[simp] theorem State.reg_a (s : State) : s.reg .a = s.a := rfl
@[simp] theorem State.setReg_x_a (s : State) (v : Byte) : (s.setReg .x v).a = s.a := rfl
@[simp] theorem State.setReg_x_x (s : State) (v : Byte) : (s.setReg .x v).x = v := rfl
@[simp] theorem State.setReg_x_y (s : State) (v : Byte) : (s.setReg .x v).y = s.y := rfl
@[simp] theorem State.setReg_x_sp (s : State) (v : Byte) : (s.setReg .x v).sp = s.sp := rfl
@[simp] theorem State.loadReg_x_a (s : State) (v : Byte) : (s.loadReg .x v).a = s.a := rfl
@[simp] theorem State.loadReg_x_x (s : State) (v : Byte) : (s.loadReg .x v).x = v := rfl
@[simp] theorem State.loadReg_x_y (s : State) (v : Byte) : (s.loadReg .x v).y = s.y := rfl
@[simp] theorem State.loadReg_x_sp (s : State) (v : Byte) : (s.loadReg .x v).sp = s.sp := rfl
@[simp] theorem State.reg_x (s : State) : s.reg .x = s.x := rfl
@[simp] theorem State.setReg_y_a (s : State) (v : Byte) : (s.setReg .y v).a = s.a := rfl
@[simp] theorem State.setReg_y_x (s : State) (v : Byte) : (s.setReg .y v).x = s.x := rfl
@[simp] theorem State.setReg_y_y (s : State) (v : Byte) : (s.setReg .y v).y = v := rfl
@[simp] theorem State.setReg_y_sp (s : State) (v : Byte) : (s.setReg .y v).sp = s.sp := rfl
@[simp] theorem State.loadReg_y_a (s : State) (v : Byte) : (s.loadReg .y v).a = s.a := rfl
@[simp] theorem State.loadReg_y_x (s : State) (v : Byte) : (s.loadReg .y v).x = s.x := rfl
@[simp] theorem State.loadReg_y_y (s : State) (v : Byte) : (s.loadReg .y v).y = v := rfl
@[simp] theorem State.loadReg_y_sp (s : State) (v : Byte) : (s.loadReg .y v).sp = s.sp := rfl
@[simp] theorem State.reg_y (s : State) : s.reg .y = s.y := rfl
@[simp] theorem State.setReg_s_a (s : State) (v : Byte) : (s.setReg .s v).a = s.a := rfl
@[simp] theorem State.setReg_s_x (s : State) (v : Byte) : (s.setReg .s v).x = s.x := rfl
@[simp] theorem State.setReg_s_y (s : State) (v : Byte) : (s.setReg .s v).y = s.y := rfl
@[simp] theorem State.setReg_s_sp (s : State) (v : Byte) : (s.setReg .s v).sp = v := rfl
@[simp] theorem State.loadReg_s_a (s : State) (v : Byte) : (s.loadReg .s v).a = s.a := rfl
@[simp] theorem State.loadReg_s_x (s : State) (v : Byte) : (s.loadReg .s v).x = s.x := rfl
@[simp] theorem State.loadReg_s_y (s : State) (v : Byte) : (s.loadReg .s v).y = s.y := rfl
@[simp] theorem State.loadReg_s_sp (s : State) (v : Byte) : (s.loadReg .s v).sp = v := rfl
@[simp] theorem State.reg_s (s : State) : s.reg .s = s.sp := rfl
@[simp] theorem State.setReg_pc (s : State) (r : Reg) (v : Byte) : (s.setReg r v).pc = s.pc := by cases r <;> rfl
@[simp] theorem State.setReg_p (s : State) (r : Reg) (v : Byte) : (s.setReg r v).p = s.p := by cases r <;> rfl
@[simp] theorem State.setReg_mem (s : State) (r : Reg) (v : Byte) : (s.setReg r v).mem = s.mem := by cases r <;> rfl
@[simp] theorem State.setReg_nmiPending (s : State) (r : Reg) (v : Byte) : (s.setReg r v).nmiPending = s.nmiPending := by cases r <;> rfl
@[simp] theorem State.setReg_iPoll (s : State) (r : Reg) (v : Byte) : (s.setReg r v).iPoll = s.iPoll := by cases r <;> rfl
@[simp] theorem State.setReg_lines (s : State) (r : Reg) (v : Byte) : (s.setReg r v).lines = s.lines := by cases r <;> rfl
@[simp] theorem State.setReg_inputs (s : State) (r : Reg) (v : Byte) : (s.setReg r v).inputs = s.inputs := by cases r <;> rfl
@[simp] theorem State.setReg_params (s : State) (r : Reg) (v : Byte) : (s.setReg r v).params = s.params := by cases r <;> rfl
@[simp] theorem State.setReg_draws (s : State) (r : Reg) (v : Byte) : (s.setReg r v).draws = s.draws := by cases r <;> rfl
@[simp] theorem State.loadReg_pc (s : State) (r : Reg) (v : Byte) : (s.loadReg r v).pc = s.pc := by cases r <;> rfl
@[simp] theorem State.loadReg_p (s : State) (r : Reg) (v : Byte) : (s.loadReg r v).p = setNZ v s.p := rfl
@[simp] theorem State.loadReg_mem (s : State) (r : Reg) (v : Byte) : (s.loadReg r v).mem = s.mem := by cases r <;> rfl
@[simp] theorem State.loadReg_nmiPending (s : State) (r : Reg) (v : Byte) : (s.loadReg r v).nmiPending = s.nmiPending := by cases r <;> rfl
@[simp] theorem State.loadReg_iPoll (s : State) (r : Reg) (v : Byte) : (s.loadReg r v).iPoll = s.iPoll := by cases r <;> rfl
@[simp] theorem State.loadReg_lines (s : State) (r : Reg) (v : Byte) : (s.loadReg r v).lines = s.lines := by cases r <;> rfl
@[simp] theorem State.loadReg_inputs (s : State) (r : Reg) (v : Byte) : (s.loadReg r v).inputs = s.inputs := by cases r <;> rfl
@[simp] theorem State.loadReg_params (s : State) (r : Reg) (v : Byte) : (s.loadReg r v).params = s.params := by cases r <;> rfl
@[simp] theorem State.loadReg_draws (s : State) (r : Reg) (v : Byte) : (s.loadReg r v).draws = s.draws := by cases r <;> rfl

@[simp] theorem State.settleMask_a (s : State) : s.settleMask.a = s.a := rfl
@[simp] theorem State.settleMask_x (s : State) : s.settleMask.x = s.x := rfl
@[simp] theorem State.settleMask_y (s : State) : s.settleMask.y = s.y := rfl
@[simp] theorem State.settleMask_sp (s : State) : s.settleMask.sp = s.sp := rfl
@[simp] theorem State.settleMask_pc (s : State) : s.settleMask.pc = s.pc := rfl
@[simp] theorem State.settleMask_p (s : State) : s.settleMask.p = s.p := rfl
@[simp] theorem State.settleMask_mem (s : State) : s.settleMask.mem = s.mem := rfl
@[simp] theorem State.settleMask_nmiPending (s : State) : s.settleMask.nmiPending = s.nmiPending := rfl
@[simp] theorem State.settleMask_iPoll (s : State) : s.settleMask.iPoll = s.p.i := rfl
@[simp] theorem State.settleMask_lines (s : State) : s.settleMask.lines = s.lines := rfl
@[simp] theorem State.settleMask_inputs (s : State) : s.settleMask.inputs = s.inputs := rfl
@[simp] theorem State.settleMask_params (s : State) : s.settleMask.params = s.params := rfl
@[simp] theorem State.settleMask_draws (s : State) : s.settleMask.draws = s.draws := rfl

@[simp] theorem sampleLines_a (s : State) : (sampleLines s).a = s.a := rfl
@[simp] theorem sampleLines_x (s : State) : (sampleLines s).x = s.x := rfl
@[simp] theorem sampleLines_y (s : State) : (sampleLines s).y = s.y := rfl
@[simp] theorem sampleLines_sp (s : State) : (sampleLines s).sp = s.sp := rfl
@[simp] theorem sampleLines_pc (s : State) : (sampleLines s).pc = s.pc := rfl
@[simp] theorem sampleLines_p (s : State) : (sampleLines s).p = s.p := rfl
@[simp] theorem sampleLines_mem (s : State) : (sampleLines s).mem = s.mem := rfl
@[simp] theorem sampleLines_nmiPending (s : State) : (sampleLines s).nmiPending = (s.nmiPending || ((s.inputs.headD Lines.released).nmi && !s.lines.nmi)) := rfl
@[simp] theorem sampleLines_iPoll (s : State) : (sampleLines s).iPoll = s.iPoll := rfl
@[simp] theorem sampleLines_lines (s : State) : (sampleLines s).lines = s.inputs.headD Lines.released := rfl
@[simp] theorem sampleLines_inputs (s : State) : (sampleLines s).inputs = s.inputs.tail := rfl
@[simp] theorem sampleLines_params (s : State) : (sampleLines s).params = s.params := rfl
@[simp] theorem sampleLines_draws (s : State) : (sampleLines s).draws = s.draws := rfl

@[simp] theorem State.withBytesAtPc_a (s : State) (b0 b1 b2 : Byte) : (s.withBytesAtPc b0 b1 b2).a = s.a := rfl
@[simp] theorem State.withBytesAtPc_x (s : State) (b0 b1 b2 : Byte) : (s.withBytesAtPc b0 b1 b2).x = s.x := rfl
@[simp] theorem State.withBytesAtPc_y (s : State) (b0 b1 b2 : Byte) : (s.withBytesAtPc b0 b1 b2).y = s.y := rfl
@[simp] theorem State.withBytesAtPc_sp (s : State) (b0 b1 b2 : Byte) : (s.withBytesAtPc b0 b1 b2).sp = s.sp := rfl
@[simp] theorem State.withBytesAtPc_pc (s : State) (b0 b1 b2 : Byte) : (s.withBytesAtPc b0 b1 b2).pc = s.pc := rfl
@[simp] theorem State.withBytesAtPc_p (s : State) (b0 b1 b2 : Byte) : (s.withBytesAtPc b0 b1 b2).p = s.p := rfl
@[simp] theorem State.withBytesAtPc_iPoll (s : State) (b0 b1 b2 : Byte) : (s.withBytesAtPc b0 b1 b2).iPoll = s.iPoll := rfl
@[simp] theorem State.withBytesAtPc_lines (s : State) (b0 b1 b2 : Byte) : (s.withBytesAtPc b0 b1 b2).lines = s.lines := rfl
@[simp] theorem State.withBytesAtPc_draws (s : State) (b0 b1 b2 : Byte) : (s.withBytesAtPc b0 b1 b2).draws = s.draws := rfl
@[simp] theorem State.withBytesAtPc_nmiPending (s : State) (b0 b1 b2 : Byte) :
    (s.withBytesAtPc b0 b1 b2).nmiPending = false := rfl
@[simp] theorem State.withBytesAtPc_inputs (s : State) (b0 b1 b2 : Byte) : (s.withBytesAtPc b0 b1 b2).inputs = [] := rfl

@[simp] theorem setNZ_i (v : Byte) (p : Flags) : (setNZ v p).i = p.i := rfl
@[simp] theorem setNZ_d (v : Byte) (p : Flags) : (setNZ v p).d = p.d := rfl
@[simp] theorem setNZ_v (v : Byte) (p : Flags) : (setNZ v p).v = p.v := rfl
@[simp] theorem setNZ_c (v : Byte) (p : Flags) : (setNZ v p).c = p.c := rfl
@[simp] theorem setNZ_n (v : Byte) (p : Flags) : (setNZ v p).n = v.getLsbD 7 := rfl
@[simp] theorem setNZ_z (v : Byte) (p : Flags) : (setNZ v p).z = decide (v = 0x00#8) := rfl

@[simp] theorem State.unspecifiedByReset_pc (s : State) : s.unspecifiedByReset.pc = s.pc := by
  unfold State.unspecifiedByReset
  split <;> rfl
@[simp] theorem State.unspecifiedByReset_mem (s : State) : s.unspecifiedByReset.mem = s.mem := by
  unfold State.unspecifiedByReset
  split <;> rfl
@[simp] theorem State.unspecifiedByReset_nmiPending (s : State) : s.unspecifiedByReset.nmiPending = s.nmiPending := by
  unfold State.unspecifiedByReset
  split <;> rfl
@[simp] theorem State.unspecifiedByReset_iPoll (s : State) : s.unspecifiedByReset.iPoll = s.iPoll := by
  unfold State.unspecifiedByReset
  split <;> rfl
@[simp] theorem State.unspecifiedByReset_lines (s : State) : s.unspecifiedByReset.lines = s.lines := by
  unfold State.unspecifiedByReset
  split <;> rfl
@[simp] theorem State.unspecifiedByReset_inputs (s : State) : s.unspecifiedByReset.inputs = s.inputs := by
  unfold State.unspecifiedByReset
  split <;> rfl
@[simp] theorem State.unspecifiedByReset_params (s : State) : s.unspecifiedByReset.params = s.params := by
  unfold State.unspecifiedByReset
  split <;> rfl
@[simp] theorem State.unspecifiedByReset_i (s : State) : s.unspecifiedByReset.p.i = s.p.i := by
  unfold State.unspecifiedByReset
  split <;> rfl

@[simp] theorem State.kindAt_with_draws (s : State) (n : Nat) (w : Word) :
    ({ s with draws := n } : State).kindAt w = s.kindAt w := rfl
@[simp] theorem State.peek_with_draws (s : State) (n : Nat) (w : Word) :
    ({ s with draws := n } : State).peek w = s.peek w := rfl

theorem State.kindAt_eq (s : State) (w : Word) : s.kindAt w = memKind s.params.memMap w.toNat := rfl
theorem State.peek_eq (s : State) (w : Word) : s.peek w = s.mem.read w := rfl

/-- Memory decides alone what storage holds at an address. -/
theorem State.peek_eq_of_mem {s t : State} (h : s.mem = t.mem) (w : Word) : s.peek w = t.peek w := by
  simp only [State.peek, h]

/-- The map decides alone what stands at an address. -/
theorem State.kindAt_eq_of_params {s t : State} (h : s.params = t.params) (w : Word) : s.kindAt w = t.kindAt w := by
  simp only [State.kindAt, h]

/-- Under the empty map every address is `ram` (`00_scope.md` R5). -/
theorem State.kindAt_of_nil {s : State} (h : s.params.memMap = []) (w : Word) : s.kindAt w = .ram := by
  simp only [State.kindAt, h, memKind]

end Sys2Proof.Machine
end

