-- ==== Sys2Proof/Laws/Ops.lean ====
section
/-! SUPPORT. For each shared operation, once, everything it can do: when storage answers it is an equation; and
whatever the map, an inversion, "if it answers a next state then ...". The only field an access changes besides the one
it names is `draws`. -/

namespace Sys2Proof.Machine

variable {α : Type} {r : α} {s : State}

/-! One byte. -/

theorem readByte_plain {a : Word} (h : s.Plain a) (k : Byte → State → Answer α) :
    readByte a s k = k (s.peek a) s := by
  unfold readByte
  rcases h with h | h <;> rw [h]

theorem readByte_absent {a : Word} (h : s.kindAt a = .absent) (k : Byte → State → Answer α) :
    readByte a s k = k (Config.freeByte s.draws) { s with draws := s.draws + 1 } := by
  unfold readByte
  rw [h]

theorem readByte_device {a : Word} (h : s.kindAt a = .device) (k : Byte → State → Answer α) :
    readByte a s k = .refused (.deviceAccess a) := by
  unfold readByte
  rw [h]

/-- A read that goes on: the address is no device, what follows runs on some byte and on the state with at most free
values taken; where storage answers it is the stored byte and nothing is taken. -/
theorem readByte_next {a : Word} {k : Byte → State → Answer α} (h : readByte a s k = .next r) :
    ∃ v n, s.kindAt a ≠ .device ∧ (s.Plain a → v = s.peek a ∧ n = s.draws) ∧
      k v { s with draws := n } = .next r := by
  cases hk : s.kindAt a with
  | ram => exact ⟨s.peek a, s.draws, by simp, fun _ => ⟨rfl, rfl⟩, by rw [← h, readByte_plain (.inl hk)]⟩
  | rom => exact ⟨s.peek a, s.draws, by simp, fun _ => ⟨rfl, rfl⟩, by rw [← h, readByte_plain (.inr hk)]⟩
  | absent =>
    refine ⟨Config.freeByte s.draws, s.draws + 1, by simp, fun hp => ?_, by rw [← h, readByte_absent hk]⟩
    rcases hp with hp | hp <;> simp [hk] at hp
  | device => simp [readByte_device hk] at h

/-- A read that is refused: the address is a device and the reason names it; or what follows was refused, run on the
byte and the state that every continuation of this read is run on. -/
theorem readByte_refused {a : Word} {k : Byte → State → Answer α} {e : Refusal} (h : readByte a s k = .refused e) :
    (s.kindAt a = .device ∧ e = .deviceAccess a) ∨
    ∃ v n, k v { s with draws := n } = .refused e ∧
      ∀ {β : Type} (k' : Byte → State → Answer β), readByte a s k' = k' v { s with draws := n } := by
  cases hk : s.kindAt a with
  | ram => exact .inr ⟨_, s.draws, by rw [← h, readByte_plain (.inl hk)], fun _ => readByte_plain (.inl hk) _⟩
  | rom => exact .inr ⟨_, s.draws, by rw [← h, readByte_plain (.inr hk)], fun _ => readByte_plain (.inr hk) _⟩
  | absent => exact .inr ⟨_, _, by rw [← h, readByte_absent hk], fun _ => readByte_absent hk _⟩
  | device =>
    rw [readByte_device hk] at h
    injection h with h
    exact .inl ⟨rfl, h.symm⟩

theorem writeByte_eq {a : Word} (h : s.kindAt a ≠ .device) (v : Byte) (k : State → Answer α) :
    writeByte a v s k = k { s with mem := s.poke a v } := by
  unfold writeByte
  cases hk : s.kindAt a <;> simp_all

theorem writeByte_device {a : Word} (h : s.kindAt a = .device) (v : Byte) (k : State → Answer α) :
    writeByte a v s k = .refused (.deviceAccess a) := by
  unfold writeByte
  rw [h]

/-- A write that goes on: the address is no device, and what follows runs on the state with memory poked. -/
theorem writeByte_next {a : Word} {v : Byte} {k : State → Answer α} (h : writeByte a v s k = .next r) :
    s.kindAt a ≠ .device ∧ k { s with mem := s.poke a v } = .next r := by
  by_cases hk : s.kindAt a = .device
  · simp [writeByte_device hk] at h
  · exact ⟨hk, by rw [← h, writeByte_eq hk]⟩

/-- A write that is refused: the address is a device and the reason names it; or what follows was refused. -/
theorem writeByte_refused {a : Word} {v : Byte} {k : State → Answer α} {e : Refusal}
    (h : writeByte a v s k = .refused e) :
    (s.kindAt a = .device ∧ e = .deviceAccess a) ∨ k { s with mem := s.poke a v } = .refused e := by
  by_cases hk : s.kindAt a = .device
  · rw [writeByte_device hk] at h
    injection h with h
    exact .inl ⟨hk, h.symm⟩
  · exact .inr (by rw [← h, writeByte_eq hk])

/-! Two bytes. -/

theorem readPair_plain {la ha : Word} (hl : s.Plain la) (hh : s.Plain ha) (k : Word → State → Answer α) :
    readPair la ha s k = k (wordOf (s.peek ha) (s.peek la)) s := by
  unfold readPair
  rw [readByte_plain hl, readByte_plain hh]

theorem readPair_next {la ha : Word} {k : Word → State → Answer α} (h : readPair la ha s k = .next r) :
    ∃ w n, s.kindAt la ≠ .device ∧ s.kindAt ha ≠ .device ∧
      (s.Plain la → s.Plain ha → w = wordOf (s.peek ha) (s.peek la) ∧ n = s.draws) ∧
      k w { s with draws := n } = .next r := by
  obtain ⟨l, n1, hl, e1, h⟩ := readByte_next h
  obtain ⟨u, n2, hh, e2, h⟩ := readByte_next h
  refine ⟨wordOf u l, n2, hl, hh, fun pl ph => ?_, h⟩
  obtain ⟨rfl, rfl⟩ := e1 pl
  obtain ⟨rfl, rfl⟩ := e2 ph
  exact ⟨rfl, rfl⟩

theorem read16_plain {a : Word} (hl : s.Plain a) (hh : s.Plain (a + 1)) (k : Word → State → Answer α) :
    read16 a s k = k (wordOf (s.peek (a + 1)) (s.peek a)) s := readPair_plain hl hh k

theorem read16_next {a : Word} {k : Word → State → Answer α} (h : read16 a s k = .next r) :
    ∃ w n, s.kindAt a ≠ .device ∧ s.kindAt (a + 1) ≠ .device ∧
      (s.Plain a → s.Plain (a + 1) → w = wordOf (s.peek (a + 1)) (s.peek a) ∧ n = s.draws) ∧
      k w { s with draws := n } = .next r := readPair_next h

theorem read16zp_plain {p : Byte} (hl : s.Plain (wordOf 0 p)) (hh : s.Plain (wordOf 0 (p + 1)))
    (k : Word → State → Answer α) :
    read16zp p s k = k (wordOf (s.peek (wordOf 0 (p + 1))) (s.peek (wordOf 0 p))) s := readPair_plain hl hh k

theorem read16zp_next {p : Byte} {k : Word → State → Answer α} (h : read16zp p s k = .next r) :
    ∃ w n, s.kindAt (wordOf 0 p) ≠ .device ∧ s.kindAt (wordOf 0 (p + 1)) ≠ .device ∧
      (s.Plain (wordOf 0 p) → s.Plain (wordOf 0 (p + 1)) →
        w = wordOf (s.peek (wordOf 0 (p + 1))) (s.peek (wordOf 0 p)) ∧ n = s.draws) ∧
      k w { s with draws := n } = .next r := readPair_next h

/-! The stack. -/

theorem push_eq (h : s.kindAt (stackAddr s.sp) ≠ .device) (v : Byte) (k : State → Answer α) :
    push v s k = k { s with mem := s.poke (stackAddr s.sp) v, sp := s.sp - 1 } := by
  unfold push
  rw [writeByte_eq h]

theorem push_next {v : Byte} {k : State → Answer α} (h : push v s k = .next r) :
    s.kindAt (stackAddr s.sp) ≠ .device ∧
      k { s with mem := s.poke (stackAddr s.sp) v, sp := s.sp - 1 } = .next r := writeByte_next h

theorem pull_plain (h : s.Plain (stackAddr (s.sp + 1))) (k : Byte → State → Answer α) :
    pull s k = k (s.peek (stackAddr (s.sp + 1))) { s with sp := s.sp + 1 } :=
  readByte_plain (s := { s with sp := s.sp + 1 }) h k

theorem pull_next {k : Byte → State → Answer α} (h : pull s k = .next r) :
    ∃ v n, s.kindAt (stackAddr (s.sp + 1)) ≠ .device ∧
      (s.Plain (stackAddr (s.sp + 1)) → v = s.peek (stackAddr (s.sp + 1)) ∧ n = s.draws) ∧
      k v { s with sp := s.sp + 1, draws := n } = .next r := readByte_next h

/-- Memory after a word is pushed: the high byte at `$01 : S`, the low byte below it. -/
def State.pushedWord (s : State) (w : Word) : Memory :=
  { s with mem := s.poke (stackAddr s.sp) (hiByte w) }.poke (stackAddr (s.sp - 1)) (loByte w)

theorem pushWord_eq (h0 : s.kindAt (stackAddr s.sp) ≠ .device) (h1 : s.kindAt (stackAddr (s.sp - 1)) ≠ .device)
    (w : Word) (k : State → Answer α) :
    pushWord w s k = k { s with mem := s.pushedWord w, sp := s.sp - 1 - 1 } := by
  unfold pushWord
  rw [push_eq h0]
  exact push_eq (s := { s with mem := s.poke (stackAddr s.sp) (hiByte w), sp := s.sp - 1 }) h1 _ k

theorem pushWord_next {w : Word} {k : State → Answer α} (h : pushWord w s k = .next r) :
    s.kindAt (stackAddr s.sp) ≠ .device ∧ s.kindAt (stackAddr (s.sp - 1)) ≠ .device ∧
      k { s with mem := s.pushedWord w, sp := s.sp - 1 - 1 } = .next r := by
  obtain ⟨h0, h⟩ := push_next h
  obtain ⟨h1, h⟩ := push_next h
  exact ⟨h0, h1, h⟩

theorem pullWord_plain (h0 : s.Plain (stackAddr (s.sp + 1))) (h1 : s.Plain (stackAddr (s.sp + 1 + 1)))
    (k : Word → State → Answer α) :
    pullWord s k =
      k (wordOf (s.peek (stackAddr (s.sp + 1 + 1))) (s.peek (stackAddr (s.sp + 1)))) { s with sp := s.sp + 1 + 1 } := by
  unfold pullWord
  rw [pull_plain h0]
  exact pull_plain (s := { s with sp := s.sp + 1 }) h1 _

theorem pullWord_next {k : Word → State → Answer α} (h : pullWord s k = .next r) :
    ∃ w n, s.kindAt (stackAddr (s.sp + 1)) ≠ .device ∧ s.kindAt (stackAddr (s.sp + 1 + 1)) ≠ .device ∧
      (s.Plain (stackAddr (s.sp + 1)) → s.Plain (stackAddr (s.sp + 1 + 1)) →
        w = wordOf (s.peek (stackAddr (s.sp + 1 + 1))) (s.peek (stackAddr (s.sp + 1))) ∧ n = s.draws) ∧
      k w { s with sp := s.sp + 1 + 1, draws := n } = .next r := by
  obtain ⟨l, n1, hl, e1, h⟩ := pull_next h
  obtain ⟨u, n2, hh, e2, h⟩ := pull_next h
  refine ⟨wordOf u l, n2, hl, hh, fun pl ph => ?_, h⟩
  obtain ⟨rfl, rfl⟩ := e1 pl
  obtain ⟨rfl, rfl⟩ := e2 ph
  exact ⟨rfl, rfl⟩

/-! Traps and RESET. -/

/-- Memory after a trap entry: the word `ret`, and `PByte(b)` below it. -/
def State.trapped (s : State) (ret : Word) (b : Bool) : Memory :=
  { s with mem := s.pushedWord ret }.poke (stackAddr (s.sp - 1 - 1)) (pByte b s.p)

theorem enterTrap_next {ret vec : Word} {b : Bool} {k : State → Answer α} (h : enterTrap ret b vec s k = .next r) :
    ∃ w n, s.kindAt (stackAddr s.sp) ≠ .device ∧ s.kindAt (stackAddr (s.sp - 1)) ≠ .device ∧
      s.kindAt (stackAddr (s.sp - 1 - 1)) ≠ .device ∧ s.kindAt vec ≠ .device ∧ s.kindAt (vec + 1) ≠ .device ∧
      (s.Plain vec → s.Plain (vec + 1) →
        w = wordOf ((s.trapped ret b).read (vec + 1)) ((s.trapped ret b).read vec) ∧ n = s.draws) ∧
      k { s with
        mem := s.trapped ret b, sp := s.sp - 1 - 1 - 1, p := { s.p with i := true }, draws := n, pc := w } = .next r := by
  obtain ⟨h0, h1, h⟩ := pushWord_next h
  obtain ⟨h2, h⟩ := push_next h
  obtain ⟨w, n, hl, hh, e, h⟩ := read16_next h
  exact ⟨w, n, h0, h1, h2, hl, hh, e, h⟩

theorem enterTrap_eq {ret vec : Word} {b : Bool} (h0 : s.kindAt (stackAddr s.sp) ≠ .device)
    (h1 : s.kindAt (stackAddr (s.sp - 1)) ≠ .device) (h2 : s.kindAt (stackAddr (s.sp - 1 - 1)) ≠ .device)
    (hl : s.Plain vec) (hh : s.Plain (vec + 1)) (k : State → Answer α) :
    enterTrap ret b vec s k = k { s with
      mem := s.trapped ret b, sp := s.sp - 1 - 1 - 1, p := { s.p with i := true },
      pc := wordOf ((s.trapped ret b).read (vec + 1)) ((s.trapped ret b).read vec) } := by
  unfold enterTrap
  rw [pushWord_eq h0 h1, push_eq (s := { s with mem := s.pushedWord ret, sp := s.sp - 1 - 1 }) h2]
  exact read16_plain (s := { s with
    mem := s.trapped ret b, sp := s.sp - 1 - 1 - 1, p := { s.p with i := true } }) hl hh _

theorem returnFromTrap_next {k : State → Answer α} (h : returnFromTrap s k = .next r) :
    ∃ b w n, s.kindAt (stackAddr (s.sp + 1)) ≠ .device ∧ s.kindAt (stackAddr (s.sp + 1 + 1)) ≠ .device ∧
      s.kindAt (stackAddr (s.sp + 1 + 1 + 1)) ≠ .device ∧
      (s.Plain (stackAddr (s.sp + 1)) → s.Plain (stackAddr (s.sp + 1 + 1)) → s.Plain (stackAddr (s.sp + 1 + 1 + 1)) →
        b = s.peek (stackAddr (s.sp + 1)) ∧
        w = wordOf (s.peek (stackAddr (s.sp + 1 + 1 + 1))) (s.peek (stackAddr (s.sp + 1 + 1))) ∧ n = s.draws) ∧
      k { s with sp := s.sp + 1 + 1 + 1, p := flagsOfByte b, draws := n, pc := w } = .next r := by
  obtain ⟨b, n1, h0, e1, h⟩ := pull_next h
  obtain ⟨w, n2, h1, h2, e2, h⟩ := pullWord_next h
  refine ⟨b, w, n2, h0, h1, h2, fun p0 p1 p2 => ?_, h⟩
  obtain ⟨rfl, rfl⟩ := e1 p0
  obtain ⟨rfl, rfl⟩ := e2 p1 p2
  exact ⟨rfl, rfl, rfl⟩

theorem returnFromTrap_plain (h0 : s.Plain (stackAddr (s.sp + 1))) (h1 : s.Plain (stackAddr (s.sp + 1 + 1)))
    (h2 : s.Plain (stackAddr (s.sp + 1 + 1 + 1))) (k : State → Answer α) :
    returnFromTrap s k = k { s with
      sp := s.sp + 1 + 1 + 1, p := flagsOfByte (s.peek (stackAddr (s.sp + 1))),
      pc := wordOf (s.peek (stackAddr (s.sp + 1 + 1 + 1))) (s.peek (stackAddr (s.sp + 1 + 1))) } := by
  unfold returnFromTrap
  rw [pull_plain h0]
  exact pullWord_plain (s := { s with sp := s.sp + 1, p := flagsOfByte (s.peek (stackAddr (s.sp + 1))) }) h1 h2 _

theorem enterReset_next {k : State → Answer α} (h : enterReset s k = .next r) :
    ∃ w n, s.kindAt vecReset ≠ .device ∧ s.kindAt (vecReset + 1) ≠ .device ∧
      (s.Plain vecReset → s.Plain (vecReset + 1) →
        w = wordOf (s.peek (vecReset + 1)) (s.peek vecReset) ∧ n = s.unspecifiedByReset.draws) ∧
      k { s.unspecifiedByReset with
        p := { s.unspecifiedByReset.p with i := true }, nmiPending := false, draws := n, pc := w } = .next r := by
  obtain ⟨w, n, hl, hh, e, h⟩ := read16_next h
  have hk : ∀ a, State.kindAt { s.unspecifiedByReset with
      p := { s.unspecifiedByReset.p with i := true }, nmiPending := false } a = s.kindAt a :=
    fun a => State.kindAt_eq_of_params (by simp) a
  have hm : ∀ a, State.peek { s.unspecifiedByReset with
      p := { s.unspecifiedByReset.p with i := true }, nmiPending := false } a = s.peek a :=
    fun a => State.peek_eq_of_mem (by simp) a
  simp only [State.Plain, hk, hm] at hl hh e
  exact ⟨w, n, hl, hh, e, h⟩

/-! Addressing modes that read a pointer. -/

theorem withIndirect_plain {a : Word} (hl : s.Plain a) (hh : s.Plain (wordOf (hiByte a) (loByte a + 1)))
    (k : Word → State → Answer α) :
    withIndirect a s k = k (wordOf (s.peek (wordOf (hiByte a) (loByte a + 1))) (s.peek a)) s := readPair_plain hl hh k

theorem withIndirect_next {a : Word} {k : Word → State → Answer α} (h : withIndirect a s k = .next r) :
    ∃ w n, s.kindAt a ≠ .device ∧ s.kindAt (wordOf (hiByte a) (loByte a + 1)) ≠ .device ∧
      (s.Plain a → s.Plain (wordOf (hiByte a) (loByte a + 1)) →
        w = wordOf (s.peek (wordOf (hiByte a) (loByte a + 1))) (s.peek a) ∧ n = s.draws) ∧
      k w { s with draws := n } = .next r := readPair_next h

theorem withIndX_plain {d : Byte} (hl : s.Plain (wordOf 0 (d + s.x))) (hh : s.Plain (wordOf 0 (d + s.x + 1)))
    (k : Word → State → Answer α) :
    withIndX d s k = k (wordOf (s.peek (wordOf 0 (d + s.x + 1))) (s.peek (wordOf 0 (d + s.x)))) s :=
  read16zp_plain hl hh k

/-- The address an (Ind,X) access uses is the one the mode alone answers. -/
theorem withIndX_next {d : Byte} {k : Word → State → Answer α} (h : withIndX d s k = .next r) :
    ∃ w n, withIndX d s (fun ea t => .next (ea, t)) = .next (w, { s with draws := n }) ∧
      k w { s with draws := n } = .next r := by
  unfold withIndX read16zp readPair at h ⊢
  unfold readByte at h ⊢
  cases h1 : s.kindAt (wordOf 0x00#8 (d + s.x)) <;> cases h2 : s.kindAt (wordOf 0x00#8 (d + s.x + 1)) <;>
    simp only [h1, h2, State.kindAt_with_draws, reduceCtorEq] at h ⊢ <;> exact ⟨_, _, rfl, h⟩

theorem withIndY_plain {d : Byte} (hl : s.Plain (wordOf 0 d)) (hh : s.Plain (wordOf 0 (d + 1)))
    (k : Word → State → Answer α) :
    withIndY d s k = k (wordOf (s.peek (wordOf 0 (d + 1))) (s.peek (wordOf 0 d)) + zext16 s.y) s :=
  read16zp_plain hl hh _

/-- The address an (Ind),Y access uses is the one the mode alone answers. -/
theorem withIndY_next {d : Byte} {k : Word → State → Answer α} (h : withIndY d s k = .next r) :
    ∃ w n, withIndY d s (fun ea t => .next (ea, t)) = .next (w, { s with draws := n }) ∧
      k w { s with draws := n } = .next r := by
  unfold withIndY read16zp readPair at h ⊢
  unfold readByte at h ⊢
  cases h1 : s.kindAt (wordOf 0x00#8 d) <;> cases h2 : s.kindAt (wordOf 0x00#8 (d + 1)) <;>
    simp only [h1, h2, State.kindAt_with_draws, reduceCtorEq] at h ⊢ <;> exact ⟨_, _, rfl, h⟩

/-! What follows an operand. -/

theorem storeReg_next {g : Reg} {len ea : Word} {t : State} (h : storeReg g len ea s = .next t) :
    s.kindAt ea ≠ .device ∧ t = { s with mem := s.poke ea (s.reg g), pc := s.pc + len } := by
  obtain ⟨hk, h⟩ := writeByte_next h
  cases h
  exact ⟨hk, rfl⟩

theorem finishArith_next {q : Option (Byte × Flags)} {len : Word} {t : State} (h : finishArith q len s = .next t) :
    ∃ v p, q = some (v, p) ∧ t = { s with a := v, p := p, pc := s.pc + len } := by
  cases q with
  | none => simp [finishArith] at h
  | some q =>
    cases h
    exact ⟨q.1, q.2, rfl, rfl⟩

theorem shiftMem_next {op : Byte → Bool → Byte × Bool} {len ea : Word} {t : State}
    (h : shiftMem op len ea s = .next t) :
    ∃ m n, s.kindAt ea ≠ .device ∧ (s.Plain ea → m = s.peek ea ∧ n = s.draws) ∧
      t = { s with
        draws := n, mem := s.poke ea (op m s.p.c).1, pc := s.pc + len,
        p := shiftFlags (op m s.p.c).1 (op m s.p.c).2 s.p } := by
  obtain ⟨m, n, hk, e, h⟩ := readByte_next h
  obtain ⟨-, h⟩ := writeByte_next h
  cases h
  exact ⟨m, n, hk, e, rfl⟩

theorem countMem_next {delta : Byte} {len ea : Word} {t : State} (h : countMem delta len ea s = .next t) :
    ∃ m n, s.kindAt ea ≠ .device ∧ (s.Plain ea → m = s.peek ea ∧ n = s.draws) ∧
      t = { s with
        draws := n, mem := s.poke ea (m + delta), pc := s.pc + len, p := setNZ (m + delta) s.p } := by
  obtain ⟨m, n, hk, e, h⟩ := readByte_next h
  obtain ⟨-, h⟩ := writeByte_next h
  cases h
  exact ⟨m, n, hk, e, rfl⟩

theorem branchIf_next {c : Bool} {d : Int} {t : State} (h : branchIf c d s = .next t) :
    t = { s with pc := if c then eaRel d s else s.pc + 2 } := by
  cases c <;> cases h <;> rfl

/-- A branch always completes. -/
theorem branchIf_eq (c : Bool) (d : Int) (s : State) :
    branchIf c d s = .next { s with pc := if c then eaRel d s else s.pc + 2 } := by cases c <;> rfl

/-- The end of an instruction: a next state differs from what the meaning gave in `iPoll` only. -/
theorem finishInstr_next {i : Instr} {t : State} {q : Result} (h : finishInstr i s q = .next t) :
    ∃ u, q = .next u ∧ t = { u with iPoll := nextPoll i s.p.i u.p.i } := by
  cases q with
  | next u => cases h; exact ⟨u, rfl, rfl⟩
  | fault f => cases f
  | refused e => simp [finishInstr] at h

/-- A step that goes on took one of the events or ran one instruction. -/
theorem step_next {t : State} (h : step s = .next t) :
    (pendingEvent (sampleLines s) = .reset ∧ takeReset (sampleLines s) = .next t) ∨
    (pendingEvent (sampleLines s) = .nmi ∧ takeNmi (sampleLines s) = .next t) ∨
    (pendingEvent (sampleLines s) = .irq ∧ takeIrq (sampleLines s) = .next t) ∨
    (pendingEvent (sampleLines s) = .quiet ∧ ∃ i n u, exec i { sampleLines s with draws := n } = .next u ∧
      t = { u with iPoll := nextPoll i s.p.i u.p.i }) := by
  unfold step at h
  cases hp : pendingEvent (sampleLines s) <;> simp only [hp] at h
  case reset => exact .inl ⟨rfl, h⟩
  case nmi => exact .inr (.inl ⟨rfl, h⟩)
  case irq => exact .inr (.inr (.inl ⟨rfl, h⟩))
  case quiet =>
    refine .inr (.inr (.inr ⟨rfl, ?_⟩))
    obtain ⟨op, n, -, -, h⟩ := readByte_next h
    cases hf : opcodeForm op with
    | none => simp [hf] at h
    | some f =>
      simp only [hf] at h
      cases f with
      | one i =>
        obtain ⟨u, hu, ht⟩ := finishInstr_next h
        exact ⟨i, n, u, hu, ht⟩
      | two mk =>
        obtain ⟨d, n2, -, -, h⟩ := readByte_next h
        obtain ⟨u, hu, ht⟩ := finishInstr_next h
        exact ⟨mk d, n2, u, hu, ht⟩
      | three mk =>
        obtain ⟨l, n2, -, -, h⟩ := readByte_next h
        obtain ⟨v, n3, -, -, h⟩ := readByte_next h
        obtain ⟨u, hu, ht⟩ := finishInstr_next h
        exact ⟨mk (wordOf v l), n3, u, hu, ht⟩

end Sys2Proof.Machine
end

