-- ==== Sys2Proof/Laws/EndOfRun.lean ====
section
/-! SUPPORT. What an instruction that jumps to itself is, as `70_reset_and_hazards.md` R190 writes it, and what a state
that loops in place does in its step. -/

namespace Sys2Proof.Machine

/-- A branch leaves `pc` where it was exactly when it is taken with the displacement `$FE`. -/
theorem branchIf_stays {c : Bool} {d : Int} {s : State} (hl : -128 ≤ d) (hh : d ≤ 127) :
    (if c then eaRel d s else s.pc + 2) = s.pc ↔ c = true ∧ d = -2 := by
  cases c with
  | false =>
    simp only [Bool.false_eq_true, if_false, false_and, iff_false]
    intro h
    bv_omega
  | true =>
    simp only [if_true, true_and, eaRel, wordOfInt]
    constructor
    · intro h
      have e : BitVec.ofInt 16 d = BitVec.ofInt 16 (-2) := by
        have : (BitVec.ofInt 16 (-2) : Word) = 0xFFFE#16 := rfl
        rw [this]
        bv_omega
      have := congrArg BitVec.toInt e
      simp only [BitVec.toInt_ofInt] at this
      rw [Int.bmod_eq_of_le (by omega) (by omega), Int.bmod_eq_of_le (by omega) (by omega)] at this
      exact this
    · rintro rfl
      have : (BitVec.ofInt 16 (-2) : Word) = 0xFFFE#16 := rfl
      rw [this]
      bv_omega

theorem jumpsToItself_jmpAbs {a : Word} {s : State} : jumpsToItself (.jmpAbs a) s = true ↔ a = s.pc := by
  simp [jumpsToItself, jumpsOrBranches, Instr.mnemonic, exec, execJmpAbs]

/-- The eight branches at once: `i` is a branch whose meaning is `branchIf c d`. -/
theorem jumpsToItself_branch {i : Instr} {c : Bool} {d : Int} {s : State} (hm : jumpsOrBranches i.mnemonic = true)
    (he : exec i s = branchIf c d s) (hl : -128 ≤ d) (hh : d ≤ 127) :
    jumpsToItself i s = true ↔ c = true ∧ d = -2 := by
  simp only [jumpsToItself, hm, he, branchIf_eq, Bool.true_and, decide_eq_true_eq]
  exact branchIf_stays hl hh

/-- JSR, RTS, RTI, BRK and every instruction that is no jump or branch is not a loop in place, whatever `pc` it leaves. -/
theorem jumpsToItself_of_other {i : Instr} (hm : jumpsOrBranches i.mnemonic = false) (s : State) :
    jumpsToItself i s = false := by simp [jumpsToItself, hm]

/-- A fetch that goes on, read with any continuation: the instruction and the state it runs on are the same. -/
theorem fetchInstr_next {α : Type} {s : State} {k : Instr → State → Answer α} {r : α} (h : fetchInstr s k = .next r) :
    ∃ i n, k i { s with draws := n } = .next r ∧
      ∀ {β : Type} (k' : Instr → State → Answer β), fetchInstr s k' = k' i { s with draws := n } := by
  have hd : ∀ (v : State) (a : Word), v.params = s.params → v.kindAt a = s.kindAt a :=
    fun v a e => State.kindAt_eq_of_params e a
  have step1 : ∀ {γ : Type} {a : Word} {v : State} {g : Byte → State → Answer γ} {x : γ},
      readByte a v g = .next x → ∃ b n, g b { v with draws := n } = .next x ∧
        ∀ {β : Type} (g' : Byte → State → Answer β), readByte a v g' = g' b { v with draws := n } := by
    intro γ a v g x hx
    cases hk : v.kindAt a with
    | ram => exact ⟨_, v.draws, by rw [← hx, readByte_plain (.inl hk)], fun _ => readByte_plain (.inl hk) _⟩
    | rom => exact ⟨_, v.draws, by rw [← hx, readByte_plain (.inr hk)], fun _ => readByte_plain (.inr hk) _⟩
    | absent => exact ⟨_, _, by rw [← hx, readByte_absent hk], fun _ => readByte_absent hk _⟩
    | device => simp [readByte_device hk] at hx
  obtain ⟨op, n, h, e⟩ := step1 h
  cases hf : opcodeForm op with
  | none => simp [hf] at h
  | some f =>
    simp only [hf] at h
    cases f with
    | one i => exact ⟨i, n, h, fun k' => by unfold fetchInstr; rw [e]; simp only [hf]⟩
    | two mk =>
      obtain ⟨d, n2, h, e2⟩ := step1 h
      exact ⟨mk d, n2, h, fun k' => by unfold fetchInstr; rw [e]; simp only [hf]; exact e2 _⟩
    | three mk =>
      obtain ⟨l, n2, h, e2⟩ := step1 h
      obtain ⟨u, n3, h, e3⟩ := step1 h
      refine ⟨mk (wordOf u l), n3, h, fun k' => ?_⟩
      unfold fetchInstr
      rw [e]
      simp only [hf]
      rw [e2]
      exact e3 _

/-- A fetch that is refused: the byte at `pc` has no instruction and the reason names it and `pc`; or the reason names
a device address; or what follows was refused, run on the instruction that every continuation of this fetch is run
on. -/
theorem fetchInstr_refused {α : Type} {s : State} {k : Instr → State → Answer α} {e : Refusal}
    (h : fetchInstr s k = .refused e) :
    (∃ b, readByte s.pc s (fun v _ => .next v) = (.next b : Answer Byte) ∧ opcodeForm b = none ∧
      e = .undefinedOpcode b s.pc) ∨
    (∃ a, s.kindAt a = .device ∧ e = .deviceAccess a) ∨
    ∃ i n, k i { s with draws := n } = .refused e ∧
      ∀ {β : Type} (k' : Instr → State → Answer β), fetchInstr s k' = k' i { s with draws := n } := by
  obtain d | ⟨op, n, h, e1⟩ := readByte_refused h
  · exact .inr (.inl ⟨_, d⟩)
  · cases hf : opcodeForm op with
    | none =>
      simp only [hf] at h
      injection h with h
      exact .inl ⟨op, e1 _, hf, h.symm⟩
    | some form =>
      simp only [hf] at h
      refine .inr ?_
      cases form with
      | one i => exact .inr ⟨i, n, h, fun k' => by unfold fetchInstr; rw [e1]; simp only [hf]⟩
      | two mk =>
        obtain d | ⟨l, n2, h, e2⟩ := readByte_refused h
        · exact .inl ⟨_, d⟩
        · exact .inr ⟨mk l, n2, h, fun k' => by unfold fetchInstr; rw [e1]; simp only [hf]; exact e2 _⟩
      | three mk =>
        obtain d | ⟨l, n2, h, e2⟩ := readByte_refused h
        · exact .inl ⟨_, d⟩
        obtain d | ⟨u, n3, h, e3⟩ := readByte_refused h
        · exact .inl ⟨_, d⟩
        refine .inr ⟨mk (wordOf u l), n3, h, fun k' => ?_⟩
        unfold fetchInstr
        rw [e1]
        simp only [hf]
        rw [e2]
        exact e3 _

/-- The step of a state that loops in place goes on, with no event, and leaves `pc` where it was. -/
theorem step_of_loopsInPlace {s : State} (h : s.LoopsInPlace) : s.Quiet ∧ ∃ t, step s = .next t ∧ t.pc = s.pc := by
  unfold State.LoopsInPlace State.loopsInPlace at h
  simp only [Bool.and_eq_true, decide_eq_true_eq] at h
  obtain ⟨hq, h⟩ := h
  refine ⟨hq, ?_⟩
  cases hf : fetchInstr (sampleLines s) fun i t => .next (jumpsToItself i t) with
  | fault f => cases f
  | refused e => simp [hf] at h
  | next b =>
    simp only [hf] at h
    subst h
    obtain ⟨i, n, hj, hk⟩ := fetchInstr_next hf
    injection hj with hj
    simp only [jumpsToItself, Bool.and_eq_true] at hj
    unfold step
    simp only [hq]
    rw [hk]
    cases he : exec i { sampleLines s with draws := n } with
    | fault f => cases f
    | refused e =>
      rw [he] at hj
      exact absurd hj.2 Bool.false_ne_true
    | next u =>
      rw [he] at hj
      exact ⟨_, rfl, of_decide_eq_true hj.2⟩

end Sys2Proof.Machine
end

