-- ==== Sys2Proof/Laws/Memory.lean ====
section
/-! SUPPORT. The laws of memory: a read after a write, and the canonical form under every memory operation. -/

namespace Sys2Proof.Machine

theorem Memory.get_put_other {a b : Nat} (h : b ≠ a) (v : Byte) (m : Memory) :
    Memory.get b (Memory.put a v m) = Memory.get b m := by
  induction m with
  | nil => by_cases hv : v = unlistedByte <;> simp [Memory.put, Memory.get, hv, h]
  | cons c rest ih =>
    obtain ⟨d, w⟩ := c
    unfold Memory.put
    split
    · split <;> simp [Memory.get, h]
    · split
      · next e =>
        subst e
        split <;> simp [Memory.get, h]
      · simp [Memory.get, ih]

theorem Memory.get_below {low a : Nat} {m : Memory} (h : Memory.wfFrom low m = true) (ha : a < low) :
    Memory.get a m = unlistedByte := by
  induction m generalizing low with
  | nil => rfl
  | cons c rest ih =>
    obtain ⟨d, w⟩ := c
    simp only [Memory.wfFrom, Bool.and_eq_true, decide_eq_true_eq] at h
    rw [Memory.get, if_neg (by omega)]
    exact ih h.2 (by omega)

theorem Memory.get_put_same {low a : Nat} {m : Memory} (h : Memory.wfFrom low m = true) (v : Byte) :
    Memory.get a (Memory.put a v m) = v := by
  induction m generalizing low with
  | nil => by_cases hv : v = unlistedByte <;> simp [Memory.put, Memory.get, hv]
  | cons c rest ih =>
    obtain ⟨d, w⟩ := c
    have hw := h
    simp only [Memory.wfFrom, Bool.and_eq_true, decide_eq_true_eq] at h
    unfold Memory.put
    split
    · next hlt =>
      split
      · next hv =>
        rw [hv, Memory.get, if_neg (by omega)]
        exact Memory.get_below h.2 (by omega)
      · simp [Memory.get]
    · split
      · next hlt he =>
        subst he
        split
        · next hv => rw [hv]; exact Memory.get_below h.2 (by omega)
        · simp [Memory.get]
      · next hlt hne =>
        rw [Memory.get, if_neg hne]
        exact ih h.2

theorem Memory.wfFrom_mono {low low' : Nat} {m : Memory} (hl : low ≤ low') (h : Memory.wfFrom low' m = true) :
    Memory.wfFrom low m = true := by
  cases m with
  | nil => rfl
  | cons c rest =>
    obtain ⟨d, w⟩ := c
    simp only [Memory.wfFrom, Bool.and_eq_true, decide_eq_true_eq] at h ⊢
    exact ⟨⟨⟨by omega, h.1.1.2⟩, h.1.2⟩, h.2⟩

theorem Memory.wfFrom_put {low a : Nat} {m : Memory} (h : Memory.wfFrom low m = true) (hl : low ≤ a)
    (ha : a < 65536) (v : Byte) : Memory.wfFrom low (Memory.put a v m) = true := by
  induction m generalizing low with
  | nil => by_cases hv : v = unlistedByte <;> simp [Memory.put, Memory.wfFrom, hv, hl, ha]
  | cons c rest ih =>
    obtain ⟨d, w⟩ := c
    have hw := h
    simp only [Memory.wfFrom, Bool.and_eq_true, decide_eq_true_eq] at h
    obtain ⟨⟨⟨h1, h2⟩, h3⟩, h4⟩ := h
    unfold Memory.put
    split
    · next hlt =>
      split
      · exact hw
      · next hv =>
        simp only [Memory.wfFrom, Bool.and_eq_true, decide_eq_true_eq]
        exact ⟨⟨⟨hl, ha⟩, hv⟩, ⟨⟨⟨by omega, h2⟩, h3⟩, h4⟩⟩
    · split
      · next hlt he =>
        subst he
        split
        · exact Memory.wfFrom_mono (by omega) h4
        · next hv =>
          simp only [Memory.wfFrom, Bool.and_eq_true, decide_eq_true_eq]
          exact ⟨⟨⟨hl, ha⟩, hv⟩, h4⟩
      · next hlt hne =>
        simp only [Memory.wfFrom, Bool.and_eq_true, decide_eq_true_eq]
        exact ⟨⟨⟨h1, h2⟩, h3⟩, ih h4 (by omega)⟩

/-- A write keeps the canonical form. -/
theorem Memory.wf_write {m : Memory} (h : m.wf = true) (a : Word) (v : Byte) : (m.write a v).wf = true :=
  Memory.wfFrom_put h (Nat.zero_le _) a.isLt v

/-- A read gives what was last written (`20_memory.md` R42). -/
theorem Memory.read_write_same {m : Memory} (h : m.wf = true) (a : Word) (v : Byte) : (m.write a v).read a = v :=
  Memory.get_put_same h v

/-- A write leaves every other address alone; no premise on the list of cells. -/
theorem Memory.read_write_other {a b : Word} (h : b ≠ a) (m : Memory) (v : Byte) : (m.write a v).read b = m.read b :=
  Memory.get_put_other (fun e => h (BitVec.eq_of_toNat_eq e)) v m

/-- Only `ram` keeps a written byte. -/
theorem State.poke_eq (s : State) (a : Word) (v : Byte) :
    s.poke a v = if s.kindAt a = .ram then s.mem.write a v else s.mem := by
  unfold State.poke
  cases s.kindAt a <;> simp

/-- Every write of the machine keeps the canonical form. -/
theorem State.wf_poke {s : State} (h : s.mem.wf = true) (a : Word) (v : Byte) : (s.poke a v).wf = true := by
  rw [State.poke_eq]
  split
  · exact Memory.wf_write h a v
  · exact h

/-- A write leaves every other address alone. -/
theorem State.read_poke_other {a b : Word} (h : b ≠ a) (s : State) (v : Byte) : (s.poke a v).read b = s.mem.read b := by
  rw [State.poke_eq]
  split
  · exact Memory.read_write_other h s.mem v
  · rfl

/-- Where the map has `rom`, `absent` or `device`, no write changes anything. -/
theorem State.poke_of_not_ram {s : State} {a : Word} (h : s.kindAt a ≠ .ram) (v : Byte) : s.poke a v = s.mem := by
  rw [State.poke_eq, if_neg h]

/-- Where the map has `ram`, a read gives what was written. -/
theorem State.read_poke_same {s : State} (hw : s.mem.wf = true) {a : Word} (h : s.kindAt a = .ram) (v : Byte) :
    (s.poke a v).read a = v := by
  rw [State.poke_eq, if_pos h]
  exact Memory.read_write_same hw a v

end Sys2Proof.Machine
end

