-- ==== Sys2Proof/Laws/PerInstr.lean ====
section
/-! SUPPORT. Laws made instruction by instruction. -/

namespace Sys2Proof.Laws

/-- The encoding of an instruction has the length of its addressing mode (`30_encoding.md` R50). -/
def EncodedLength.Statement (i : Instr) : Prop := (encode i).length = i.mode.length

theorem EncodedLength.tax : EncodedLength.Statement .tax := rfl
theorem EncodedLength.tay : EncodedLength.Statement .tay := rfl
theorem EncodedLength.txa : EncodedLength.Statement .txa := rfl
theorem EncodedLength.tya : EncodedLength.Statement .tya := rfl
theorem EncodedLength.tsx : EncodedLength.Statement .tsx := rfl
theorem EncodedLength.txs : EncodedLength.Statement .txs := rfl
theorem EncodedLength.inx : EncodedLength.Statement .inx := rfl
theorem EncodedLength.iny : EncodedLength.Statement .iny := rfl
theorem EncodedLength.dex : EncodedLength.Statement .dex := rfl
theorem EncodedLength.dey : EncodedLength.Statement .dey := rfl
theorem EncodedLength.pha : EncodedLength.Statement .pha := rfl
theorem EncodedLength.pla : EncodedLength.Statement .pla := rfl
theorem EncodedLength.php : EncodedLength.Statement .php := rfl
theorem EncodedLength.plp : EncodedLength.Statement .plp := rfl
theorem EncodedLength.clc : EncodedLength.Statement .clc := rfl
theorem EncodedLength.sec : EncodedLength.Statement .sec := rfl
theorem EncodedLength.cld : EncodedLength.Statement .cld := rfl
theorem EncodedLength.sed : EncodedLength.Statement .sed := rfl
theorem EncodedLength.cli : EncodedLength.Statement .cli := rfl
theorem EncodedLength.sei : EncodedLength.Statement .sei := rfl
theorem EncodedLength.clv : EncodedLength.Statement .clv := rfl
theorem EncodedLength.aslA : EncodedLength.Statement .aslA := rfl
theorem EncodedLength.aslZp (d : Byte) : EncodedLength.Statement (.aslZp d) := rfl
theorem EncodedLength.aslZpX (d : Byte) : EncodedLength.Statement (.aslZpX d) := rfl
theorem EncodedLength.aslAbs (addr : Word) : EncodedLength.Statement (.aslAbs addr) := rfl
theorem EncodedLength.aslAbsX (addr : Word) : EncodedLength.Statement (.aslAbsX addr) := rfl
theorem EncodedLength.lsrA : EncodedLength.Statement .lsrA := rfl
theorem EncodedLength.lsrZp (d : Byte) : EncodedLength.Statement (.lsrZp d) := rfl
theorem EncodedLength.lsrZpX (d : Byte) : EncodedLength.Statement (.lsrZpX d) := rfl
theorem EncodedLength.lsrAbs (addr : Word) : EncodedLength.Statement (.lsrAbs addr) := rfl
theorem EncodedLength.lsrAbsX (addr : Word) : EncodedLength.Statement (.lsrAbsX addr) := rfl
theorem EncodedLength.rolA : EncodedLength.Statement .rolA := rfl
theorem EncodedLength.rolZp (d : Byte) : EncodedLength.Statement (.rolZp d) := rfl
theorem EncodedLength.rolZpX (d : Byte) : EncodedLength.Statement (.rolZpX d) := rfl
theorem EncodedLength.rolAbs (addr : Word) : EncodedLength.Statement (.rolAbs addr) := rfl
theorem EncodedLength.rolAbsX (addr : Word) : EncodedLength.Statement (.rolAbsX addr) := rfl
theorem EncodedLength.rorA : EncodedLength.Statement .rorA := rfl
theorem EncodedLength.rorZp (d : Byte) : EncodedLength.Statement (.rorZp d) := rfl
theorem EncodedLength.rorZpX (d : Byte) : EncodedLength.Statement (.rorZpX d) := rfl
theorem EncodedLength.rorAbs (addr : Word) : EncodedLength.Statement (.rorAbs addr) := rfl
theorem EncodedLength.rorAbsX (addr : Word) : EncodedLength.Statement (.rorAbsX addr) := rfl
theorem EncodedLength.ldaImm (d : Byte) : EncodedLength.Statement (.ldaImm d) := rfl
theorem EncodedLength.ldaZp (d : Byte) : EncodedLength.Statement (.ldaZp d) := rfl
theorem EncodedLength.ldaZpX (d : Byte) : EncodedLength.Statement (.ldaZpX d) := rfl
theorem EncodedLength.ldaAbs (addr : Word) : EncodedLength.Statement (.ldaAbs addr) := rfl
theorem EncodedLength.ldaAbsX (addr : Word) : EncodedLength.Statement (.ldaAbsX addr) := rfl
theorem EncodedLength.ldaAbsY (addr : Word) : EncodedLength.Statement (.ldaAbsY addr) := rfl
theorem EncodedLength.ldaIndX (d : Byte) : EncodedLength.Statement (.ldaIndX d) := rfl
theorem EncodedLength.ldaIndY (d : Byte) : EncodedLength.Statement (.ldaIndY d) := rfl
theorem EncodedLength.ldxImm (d : Byte) : EncodedLength.Statement (.ldxImm d) := rfl
theorem EncodedLength.ldxZp (d : Byte) : EncodedLength.Statement (.ldxZp d) := rfl
theorem EncodedLength.ldxZpY (d : Byte) : EncodedLength.Statement (.ldxZpY d) := rfl
theorem EncodedLength.ldxAbs (addr : Word) : EncodedLength.Statement (.ldxAbs addr) := rfl
theorem EncodedLength.ldxAbsY (addr : Word) : EncodedLength.Statement (.ldxAbsY addr) := rfl
theorem EncodedLength.ldyImm (d : Byte) : EncodedLength.Statement (.ldyImm d) := rfl
theorem EncodedLength.ldyZp (d : Byte) : EncodedLength.Statement (.ldyZp d) := rfl
theorem EncodedLength.ldyZpX (d : Byte) : EncodedLength.Statement (.ldyZpX d) := rfl
theorem EncodedLength.ldyAbs (addr : Word) : EncodedLength.Statement (.ldyAbs addr) := rfl
theorem EncodedLength.ldyAbsX (addr : Word) : EncodedLength.Statement (.ldyAbsX addr) := rfl
theorem EncodedLength.staZp (d : Byte) : EncodedLength.Statement (.staZp d) := rfl
theorem EncodedLength.staZpX (d : Byte) : EncodedLength.Statement (.staZpX d) := rfl
theorem EncodedLength.staAbs (addr : Word) : EncodedLength.Statement (.staAbs addr) := rfl
theorem EncodedLength.staAbsX (addr : Word) : EncodedLength.Statement (.staAbsX addr) := rfl
theorem EncodedLength.staAbsY (addr : Word) : EncodedLength.Statement (.staAbsY addr) := rfl
theorem EncodedLength.staIndX (d : Byte) : EncodedLength.Statement (.staIndX d) := rfl
theorem EncodedLength.staIndY (d : Byte) : EncodedLength.Statement (.staIndY d) := rfl
theorem EncodedLength.stxZp (d : Byte) : EncodedLength.Statement (.stxZp d) := rfl
theorem EncodedLength.stxZpY (d : Byte) : EncodedLength.Statement (.stxZpY d) := rfl
theorem EncodedLength.stxAbs (addr : Word) : EncodedLength.Statement (.stxAbs addr) := rfl
theorem EncodedLength.styZp (d : Byte) : EncodedLength.Statement (.styZp d) := rfl
theorem EncodedLength.styZpX (d : Byte) : EncodedLength.Statement (.styZpX d) := rfl
theorem EncodedLength.styAbs (addr : Word) : EncodedLength.Statement (.styAbs addr) := rfl
theorem EncodedLength.adcImm (d : Byte) : EncodedLength.Statement (.adcImm d) := rfl
theorem EncodedLength.adcZp (d : Byte) : EncodedLength.Statement (.adcZp d) := rfl
theorem EncodedLength.adcZpX (d : Byte) : EncodedLength.Statement (.adcZpX d) := rfl
theorem EncodedLength.adcAbs (addr : Word) : EncodedLength.Statement (.adcAbs addr) := rfl
theorem EncodedLength.adcAbsX (addr : Word) : EncodedLength.Statement (.adcAbsX addr) := rfl
theorem EncodedLength.adcAbsY (addr : Word) : EncodedLength.Statement (.adcAbsY addr) := rfl
theorem EncodedLength.adcIndX (d : Byte) : EncodedLength.Statement (.adcIndX d) := rfl
theorem EncodedLength.adcIndY (d : Byte) : EncodedLength.Statement (.adcIndY d) := rfl
theorem EncodedLength.sbcImm (d : Byte) : EncodedLength.Statement (.sbcImm d) := rfl
theorem EncodedLength.sbcZp (d : Byte) : EncodedLength.Statement (.sbcZp d) := rfl
theorem EncodedLength.sbcZpX (d : Byte) : EncodedLength.Statement (.sbcZpX d) := rfl
theorem EncodedLength.sbcAbs (addr : Word) : EncodedLength.Statement (.sbcAbs addr) := rfl
theorem EncodedLength.sbcAbsX (addr : Word) : EncodedLength.Statement (.sbcAbsX addr) := rfl
theorem EncodedLength.sbcAbsY (addr : Word) : EncodedLength.Statement (.sbcAbsY addr) := rfl
theorem EncodedLength.sbcIndX (d : Byte) : EncodedLength.Statement (.sbcIndX d) := rfl
theorem EncodedLength.sbcIndY (d : Byte) : EncodedLength.Statement (.sbcIndY d) := rfl
theorem EncodedLength.andImm (d : Byte) : EncodedLength.Statement (.andImm d) := rfl
theorem EncodedLength.andZp (d : Byte) : EncodedLength.Statement (.andZp d) := rfl
theorem EncodedLength.andZpX (d : Byte) : EncodedLength.Statement (.andZpX d) := rfl
theorem EncodedLength.andAbs (addr : Word) : EncodedLength.Statement (.andAbs addr) := rfl
theorem EncodedLength.andAbsX (addr : Word) : EncodedLength.Statement (.andAbsX addr) := rfl
theorem EncodedLength.andAbsY (addr : Word) : EncodedLength.Statement (.andAbsY addr) := rfl
theorem EncodedLength.andIndX (d : Byte) : EncodedLength.Statement (.andIndX d) := rfl
theorem EncodedLength.andIndY (d : Byte) : EncodedLength.Statement (.andIndY d) := rfl
theorem EncodedLength.oraImm (d : Byte) : EncodedLength.Statement (.oraImm d) := rfl
theorem EncodedLength.oraZp (d : Byte) : EncodedLength.Statement (.oraZp d) := rfl
theorem EncodedLength.oraZpX (d : Byte) : EncodedLength.Statement (.oraZpX d) := rfl
theorem EncodedLength.oraAbs (addr : Word) : EncodedLength.Statement (.oraAbs addr) := rfl
theorem EncodedLength.oraAbsX (addr : Word) : EncodedLength.Statement (.oraAbsX addr) := rfl
theorem EncodedLength.oraAbsY (addr : Word) : EncodedLength.Statement (.oraAbsY addr) := rfl
theorem EncodedLength.oraIndX (d : Byte) : EncodedLength.Statement (.oraIndX d) := rfl
theorem EncodedLength.oraIndY (d : Byte) : EncodedLength.Statement (.oraIndY d) := rfl
theorem EncodedLength.eorImm (d : Byte) : EncodedLength.Statement (.eorImm d) := rfl
theorem EncodedLength.eorZp (d : Byte) : EncodedLength.Statement (.eorZp d) := rfl
theorem EncodedLength.eorZpX (d : Byte) : EncodedLength.Statement (.eorZpX d) := rfl
theorem EncodedLength.eorAbs (addr : Word) : EncodedLength.Statement (.eorAbs addr) := rfl
theorem EncodedLength.eorAbsX (addr : Word) : EncodedLength.Statement (.eorAbsX addr) := rfl
theorem EncodedLength.eorAbsY (addr : Word) : EncodedLength.Statement (.eorAbsY addr) := rfl
theorem EncodedLength.eorIndX (d : Byte) : EncodedLength.Statement (.eorIndX d) := rfl
theorem EncodedLength.eorIndY (d : Byte) : EncodedLength.Statement (.eorIndY d) := rfl
theorem EncodedLength.cmpImm (d : Byte) : EncodedLength.Statement (.cmpImm d) := rfl
theorem EncodedLength.cmpZp (d : Byte) : EncodedLength.Statement (.cmpZp d) := rfl
theorem EncodedLength.cmpZpX (d : Byte) : EncodedLength.Statement (.cmpZpX d) := rfl
theorem EncodedLength.cmpAbs (addr : Word) : EncodedLength.Statement (.cmpAbs addr) := rfl
theorem EncodedLength.cmpAbsX (addr : Word) : EncodedLength.Statement (.cmpAbsX addr) := rfl
theorem EncodedLength.cmpAbsY (addr : Word) : EncodedLength.Statement (.cmpAbsY addr) := rfl
theorem EncodedLength.cmpIndX (d : Byte) : EncodedLength.Statement (.cmpIndX d) := rfl
theorem EncodedLength.cmpIndY (d : Byte) : EncodedLength.Statement (.cmpIndY d) := rfl
theorem EncodedLength.cpxImm (d : Byte) : EncodedLength.Statement (.cpxImm d) := rfl
theorem EncodedLength.cpxZp (d : Byte) : EncodedLength.Statement (.cpxZp d) := rfl
theorem EncodedLength.cpxAbs (addr : Word) : EncodedLength.Statement (.cpxAbs addr) := rfl
theorem EncodedLength.cpyImm (d : Byte) : EncodedLength.Statement (.cpyImm d) := rfl
theorem EncodedLength.cpyZp (d : Byte) : EncodedLength.Statement (.cpyZp d) := rfl
theorem EncodedLength.cpyAbs (addr : Word) : EncodedLength.Statement (.cpyAbs addr) := rfl
theorem EncodedLength.bitZp (d : Byte) : EncodedLength.Statement (.bitZp d) := rfl
theorem EncodedLength.bitAbs (addr : Word) : EncodedLength.Statement (.bitAbs addr) := rfl
theorem EncodedLength.incZp (d : Byte) : EncodedLength.Statement (.incZp d) := rfl
theorem EncodedLength.incZpX (d : Byte) : EncodedLength.Statement (.incZpX d) := rfl
theorem EncodedLength.incAbs (addr : Word) : EncodedLength.Statement (.incAbs addr) := rfl
theorem EncodedLength.incAbsX (addr : Word) : EncodedLength.Statement (.incAbsX addr) := rfl
theorem EncodedLength.decZp (d : Byte) : EncodedLength.Statement (.decZp d) := rfl
theorem EncodedLength.decZpX (d : Byte) : EncodedLength.Statement (.decZpX d) := rfl
theorem EncodedLength.decAbs (addr : Word) : EncodedLength.Statement (.decAbs addr) := rfl
theorem EncodedLength.decAbsX (addr : Word) : EncodedLength.Statement (.decAbsX addr) := rfl
theorem EncodedLength.jmpAbs (addr : Word) : EncodedLength.Statement (.jmpAbs addr) := rfl
theorem EncodedLength.jmpInd (addr : Word) : EncodedLength.Statement (.jmpInd addr) := rfl
theorem EncodedLength.jsr (addr : Word) : EncodedLength.Statement (.jsr addr) := rfl
theorem EncodedLength.rts : EncodedLength.Statement .rts := rfl
theorem EncodedLength.brk : EncodedLength.Statement .brk := rfl
theorem EncodedLength.rti : EncodedLength.Statement .rti := rfl
theorem EncodedLength.nop : EncodedLength.Statement .nop := rfl
theorem EncodedLength.bcc (disp : Int) : EncodedLength.Statement (.bcc disp) := rfl
theorem EncodedLength.bcs (disp : Int) : EncodedLength.Statement (.bcs disp) := rfl
theorem EncodedLength.beq (disp : Int) : EncodedLength.Statement (.beq disp) := rfl
theorem EncodedLength.bne (disp : Int) : EncodedLength.Statement (.bne disp) := rfl
theorem EncodedLength.bmi (disp : Int) : EncodedLength.Statement (.bmi disp) := rfl
theorem EncodedLength.bpl (disp : Int) : EncodedLength.Statement (.bpl disp) := rfl
theorem EncodedLength.bvc (disp : Int) : EncodedLength.Statement (.bvc disp) := rfl
theorem EncodedLength.bvs (disp : Int) : EncodedLength.Statement (.bvs disp) := rfl

end Sys2Proof.Laws
end

