-- ==== Sys2Proof/Tests/Slice0.lean ====
section
/-! SUPPORT. The model's own tests, each a named theorem: well-formedness, decoding, one step of each mnemonic at the
spec's own vectors, events, stops, and for every statement with premises a state and operands that meet them. -/

namespace Sys2Proof.Tests

set_option Elab.async false

open Sys2Proof.Machine Sys2Proof.Claims

/-! Small states. -/

/-- Memory with the cells stored in order. -/
def putAll (m : Memory) (cells : List (Word × Byte)) : Memory := cells.foldl (fun m c => m.write c.1 c.2) m

/-- The bytes at rising addresses from `a` on. -/
def cellsFrom (a : Word) : List Byte → List (Word × Byte)
  | [] => []
  | b :: rest => (a, b) :: cellsFrom (a + 1) rest

/-- Every flag 0. -/
def noFlags : Flags := { c := false, z := false, i := false, d := false, v := false, n := false }

/-- The start of a vector of `95_test_vectors.md`: registers and flags 0, `S = $FF`, the instruction at `pc`. -/
def prog (pc : Word) (bytes : List Byte) (cells : List (Word × Byte)) : State :=
  { State.reset with sp := 0xFF, pc := pc, p := noFlags, mem := putAll (putAll [] cells) (cellsFrom pc bytes) }

/-- The next state, if there is one. -/
def nextOf (r : Result) : Option State :=
  match r with
  | .next t => some t
  | .fault _ => none
  | .refused _ => none

/-- The refusal, if there is one. -/
def refusalOf (r : Result) : Option Refusal :=
  match r with
  | .next _ => none
  | .fault _ => none
  | .refused e => some e

theorem next_of_isSome {r : Result} (h : (nextOf r).isSome = true) : ∃ t, r = .next t := by
  cases r with
  | next t => exact ⟨t, rfl⟩
  | fault f => cases f
  | refused e => cases h

/-- One step from `s` gives `after s`, but for `i_poll`, and takes the cycles. -/
def gives (s : State) (cyc : Nat) (after : State → State) : Bool :=
  match step s, decode [s.peek s.pc, s.peek (s.pc + 1), s.peek (s.pc + 2)] with
  | .next t, .ok (i, _) =>
    decide (t = { after s with iPoll := t.iPoll }) &&
      (match cycles i s with
      | .next n => n == cyc
      | .fault _ => false
      | .refused _ => false)
  | _, _ => false

/-! Well-formedness: the one check is the range of a displacement (`30_encoding.md` R52). -/

theorem test_displacement_above_range_refused : ¬ WellFormed (.bne 128) := by decide

theorem test_displacement_below_range_refused : ¬ WellFormed (.bvs (-129)) := by decide

theorem test_displacement_bounds_accepted : WellFormed (.bne 127) ∧ WellFormed (.bvs (-128)) := by decide

/-! Every constructor's decoding, from a word written out from the map of `30_encoding.md` R56 (operand bytes `C5`, or
`34 12` for the word $1234, or `DE` for the displacement -34 of R52). -/

/-- The bytes decode to the instruction with nothing left, and are what the encoder writes for it. -/
def reads (bs : List Byte) (i : Instr) : Bool :=
  match decode bs with
  | .ok (j, rest) => decide (j = i) && rest.isEmpty && decide (encode i = bs)
  | .error _ => false

theorem test_decode_transfer : (
    reads [0xAA] .tax && reads [0xA8] .tay && reads [0x8A] .txa && reads [0x98] .tya && reads [0xBA] .tsx &&
    reads [0x9A] .txs && reads [0xE8] .inx && reads [0xC8] .iny && reads [0xCA] .dex && reads [0x88] .dey) = true := by
  decide +kernel

theorem test_decode_stack_and_flags : (
    reads [0x48] .pha && reads [0x68] .pla && reads [0x08] .php && reads [0x28] .plp && reads [0x18] .clc &&
    reads [0x38] .sec && reads [0xD8] .cld && reads [0xF8] .sed && reads [0x58] .cli && reads [0x78] .sei &&
    reads [0xB8] .clv) = true := by decide +kernel

theorem test_decode_shift : (
    reads [0x0A] .aslA && reads [0x06, 0xC5] (.aslZp 0xC5) && reads [0x16, 0xC5] (.aslZpX 0xC5) &&
    reads [0x0E, 0x34, 0x12] (.aslAbs 0x1234) && reads [0x1E, 0x34, 0x12] (.aslAbsX 0x1234) && reads [0x4A] .lsrA &&
    reads [0x46, 0xC5] (.lsrZp 0xC5) && reads [0x56, 0xC5] (.lsrZpX 0xC5) &&
    reads [0x4E, 0x34, 0x12] (.lsrAbs 0x1234) && reads [0x5E, 0x34, 0x12] (.lsrAbsX 0x1234) && reads [0x2A] .rolA &&
    reads [0x26, 0xC5] (.rolZp 0xC5) && reads [0x36, 0xC5] (.rolZpX 0xC5) &&
    reads [0x2E, 0x34, 0x12] (.rolAbs 0x1234) && reads [0x3E, 0x34, 0x12] (.rolAbsX 0x1234) && reads [0x6A] .rorA &&
    reads [0x66, 0xC5] (.rorZp 0xC5) && reads [0x76, 0xC5] (.rorZpX 0xC5) &&
    reads [0x6E, 0x34, 0x12] (.rorAbs 0x1234) && reads [0x7E, 0x34, 0x12] (.rorAbsX 0x1234)) = true := by
  decide +kernel

theorem test_decode_load : (
    reads [0xA9, 0xC5] (.ldaImm 0xC5) && reads [0xA5, 0xC5] (.ldaZp 0xC5) && reads [0xB5, 0xC5] (.ldaZpX 0xC5) &&
    reads [0xAD, 0x34, 0x12] (.ldaAbs 0x1234) && reads [0xBD, 0x34, 0x12] (.ldaAbsX 0x1234) &&
    reads [0xB9, 0x34, 0x12] (.ldaAbsY 0x1234) && reads [0xA1, 0xC5] (.ldaIndX 0xC5) &&
    reads [0xB1, 0xC5] (.ldaIndY 0xC5) && reads [0xA2, 0xC5] (.ldxImm 0xC5) && reads [0xA6, 0xC5] (.ldxZp 0xC5) &&
    reads [0xB6, 0xC5] (.ldxZpY 0xC5) && reads [0xAE, 0x34, 0x12] (.ldxAbs 0x1234) &&
    reads [0xBE, 0x34, 0x12] (.ldxAbsY 0x1234) && reads [0xA0, 0xC5] (.ldyImm 0xC5) &&
    reads [0xA4, 0xC5] (.ldyZp 0xC5) && reads [0xB4, 0xC5] (.ldyZpX 0xC5) &&
    reads [0xAC, 0x34, 0x12] (.ldyAbs 0x1234) && reads [0xBC, 0x34, 0x12] (.ldyAbsX 0x1234)) = true := by
  decide +kernel

theorem test_decode_store : (
    reads [0x85, 0xC5] (.staZp 0xC5) && reads [0x95, 0xC5] (.staZpX 0xC5) &&
    reads [0x8D, 0x34, 0x12] (.staAbs 0x1234) && reads [0x9D, 0x34, 0x12] (.staAbsX 0x1234) &&
    reads [0x99, 0x34, 0x12] (.staAbsY 0x1234) && reads [0x81, 0xC5] (.staIndX 0xC5) &&
    reads [0x91, 0xC5] (.staIndY 0xC5) && reads [0x86, 0xC5] (.stxZp 0xC5) && reads [0x96, 0xC5] (.stxZpY 0xC5) &&
    reads [0x8E, 0x34, 0x12] (.stxAbs 0x1234) && reads [0x84, 0xC5] (.styZp 0xC5) &&
    reads [0x94, 0xC5] (.styZpX 0xC5) && reads [0x8C, 0x34, 0x12] (.styAbs 0x1234)) = true := by decide +kernel

theorem test_decode_add_subtract : (
    reads [0x69, 0xC5] (.adcImm 0xC5) && reads [0x65, 0xC5] (.adcZp 0xC5) && reads [0x75, 0xC5] (.adcZpX 0xC5) &&
    reads [0x6D, 0x34, 0x12] (.adcAbs 0x1234) && reads [0x7D, 0x34, 0x12] (.adcAbsX 0x1234) &&
    reads [0x79, 0x34, 0x12] (.adcAbsY 0x1234) && reads [0x61, 0xC5] (.adcIndX 0xC5) &&
    reads [0x71, 0xC5] (.adcIndY 0xC5) && reads [0xE9, 0xC5] (.sbcImm 0xC5) && reads [0xE5, 0xC5] (.sbcZp 0xC5) &&
    reads [0xF5, 0xC5] (.sbcZpX 0xC5) && reads [0xED, 0x34, 0x12] (.sbcAbs 0x1234) &&
    reads [0xFD, 0x34, 0x12] (.sbcAbsX 0x1234) && reads [0xF9, 0x34, 0x12] (.sbcAbsY 0x1234) &&
    reads [0xE1, 0xC5] (.sbcIndX 0xC5) && reads [0xF1, 0xC5] (.sbcIndY 0xC5)) = true := by decide +kernel

theorem test_decode_logic : (
    reads [0x29, 0xC5] (.andImm 0xC5) && reads [0x25, 0xC5] (.andZp 0xC5) && reads [0x35, 0xC5] (.andZpX 0xC5) &&
    reads [0x2D, 0x34, 0x12] (.andAbs 0x1234) && reads [0x3D, 0x34, 0x12] (.andAbsX 0x1234) &&
    reads [0x39, 0x34, 0x12] (.andAbsY 0x1234) && reads [0x21, 0xC5] (.andIndX 0xC5) &&
    reads [0x31, 0xC5] (.andIndY 0xC5) && reads [0x09, 0xC5] (.oraImm 0xC5) && reads [0x05, 0xC5] (.oraZp 0xC5) &&
    reads [0x15, 0xC5] (.oraZpX 0xC5) && reads [0x0D, 0x34, 0x12] (.oraAbs 0x1234) &&
    reads [0x1D, 0x34, 0x12] (.oraAbsX 0x1234) && reads [0x19, 0x34, 0x12] (.oraAbsY 0x1234) &&
    reads [0x01, 0xC5] (.oraIndX 0xC5) && reads [0x11, 0xC5] (.oraIndY 0xC5) && reads [0x49, 0xC5] (.eorImm 0xC5) &&
    reads [0x45, 0xC5] (.eorZp 0xC5) && reads [0x55, 0xC5] (.eorZpX 0xC5) &&
    reads [0x4D, 0x34, 0x12] (.eorAbs 0x1234) && reads [0x5D, 0x34, 0x12] (.eorAbsX 0x1234) &&
    reads [0x59, 0x34, 0x12] (.eorAbsY 0x1234) && reads [0x41, 0xC5] (.eorIndX 0xC5) &&
    reads [0x51, 0xC5] (.eorIndY 0xC5)) = true := by decide +kernel

theorem test_decode_compare : (
    reads [0xC9, 0xC5] (.cmpImm 0xC5) && reads [0xC5, 0xC5] (.cmpZp 0xC5) && reads [0xD5, 0xC5] (.cmpZpX 0xC5) &&
    reads [0xCD, 0x34, 0x12] (.cmpAbs 0x1234) && reads [0xDD, 0x34, 0x12] (.cmpAbsX 0x1234) &&
    reads [0xD9, 0x34, 0x12] (.cmpAbsY 0x1234) && reads [0xC1, 0xC5] (.cmpIndX 0xC5) &&
    reads [0xD1, 0xC5] (.cmpIndY 0xC5) && reads [0xE0, 0xC5] (.cpxImm 0xC5) && reads [0xE4, 0xC5] (.cpxZp 0xC5) &&
    reads [0xEC, 0x34, 0x12] (.cpxAbs 0x1234) && reads [0xC0, 0xC5] (.cpyImm 0xC5) &&
    reads [0xC4, 0xC5] (.cpyZp 0xC5) && reads [0xCC, 0x34, 0x12] (.cpyAbs 0x1234) &&
    reads [0x24, 0xC5] (.bitZp 0xC5) && reads [0x2C, 0x34, 0x12] (.bitAbs 0x1234)) = true := by decide +kernel

theorem test_decode_count_memory : (
    reads [0xE6, 0xC5] (.incZp 0xC5) && reads [0xF6, 0xC5] (.incZpX 0xC5) &&
    reads [0xEE, 0x34, 0x12] (.incAbs 0x1234) && reads [0xFE, 0x34, 0x12] (.incAbsX 0x1234) &&
    reads [0xC6, 0xC5] (.decZp 0xC5) && reads [0xD6, 0xC5] (.decZpX 0xC5) &&
    reads [0xCE, 0x34, 0x12] (.decAbs 0x1234) && reads [0xDE, 0x34, 0x12] (.decAbsX 0x1234)) = true := by
  decide +kernel

theorem test_decode_jump : (
    reads [0x4C, 0x34, 0x12] (.jmpAbs 0x1234) && reads [0x6C, 0x34, 0x12] (.jmpInd 0x1234) &&
    reads [0x20, 0x34, 0x12] (.jsr 0x1234) && reads [0x60] .rts && reads [0x00] .brk && reads [0x40] .rti &&
    reads [0xEA] .nop) = true := by decide +kernel

theorem test_decode_branch : (
    reads [0x90, 0xDE] (.bcc (-34)) && reads [0xB0, 0xDE] (.bcs (-34)) && reads [0xF0, 0xDE] (.beq (-34)) &&
    reads [0xD0, 0xDE] (.bne (-34)) && reads [0x30, 0xDE] (.bmi (-34)) && reads [0x10, 0xDE] (.bpl (-34)) &&
    reads [0x50, 0xDE] (.bvc (-34)) && reads [0x70, 0xDE] (.bvs (-34))) = true := by decide +kernel

/-! One step of each mnemonic, at values taken from the vectors of `95_test_vectors.md` (the comment names the
vector): the whole next state and the cycle count. -/

/-- V41-2: TAX. -/
theorem test_V41_2_tax :
    gives { prog 0x0600 [0xAA] [] with a := 0x00, x := 0x55, p := { noFlags with n := true } } 2
      (fun t => { t with
          x := 0x00, pc := 0x0601,
          p := { t.p with n := false, z := true } }) = true := by decide +kernel

/-- V41-3: TAY. -/
theorem test_V41_3_tay :
    gives { prog 0x0600 [0xA8] [] with a := 0x7F } 2
      (fun t => { t with
          y := 0x7F, pc := 0x0601,
          p := { t.p with n := false, z := false } }) = true := by decide +kernel

/-- V41-4: TXA. -/
theorem test_V41_4_txa :
    gives { prog 0x0600 [0x8A] [] with x := 0xFF, a := 0x01 } 2
      (fun t => { t with
          a := 0xFF, pc := 0x0601,
          p := { t.p with n := true, z := false } }) = true := by decide +kernel

/-- V41-5: TYA. -/
theorem test_V41_5_tya :
    gives { prog 0x0600 [0x98] [] with y := 0x00, a := 0x33 } 2
      (fun t => { t with
          a := 0x00, pc := 0x0601,
          p := { t.p with n := false, z := true } }) = true := by decide +kernel

/-- V41-6: TSX. -/
theorem test_V41_6_tsx :
    gives { prog 0x0600 [0xBA] [] with sp := 0xFD } 2
      (fun t => { t with
          x := 0xFD, pc := 0x0601,
          p := { t.p with n := true, z := false } }) = true := by decide +kernel

/-- V41-8: TXS. -/
theorem test_V41_8_txs :
    gives { prog 0x0600 [0x9A] [] with x := 0x00, sp := 0xFF, p := { noFlags with n := true } } 2
      (fun t => { t with sp := 0x00, pc := 0x0601 }) = true := by decide +kernel

/-- V41-10: INX. -/
theorem test_V41_10_inx :
    gives { prog 0x0600 [0xE8] [] with x := 0xFF } 2
      (fun t => { t with
          x := 0x00, pc := 0x0601,
          p := { t.p with n := false, z := true } }) = true := by decide +kernel

/-- V41-13: INY. -/
theorem test_V41_13_iny :
    gives { prog 0x0600 [0xC8] [] with y := 0xFF } 2
      (fun t => { t with
          y := 0x00, pc := 0x0601,
          p := { t.p with n := false, z := true } }) = true := by decide +kernel

/-- V41-14: DEX. -/
theorem test_V41_14_dex :
    gives { prog 0x0600 [0xCA] [] with x := 0x00 } 2
      (fun t => { t with
          x := 0xFF, pc := 0x0601,
          p := { t.p with n := true, z := false } }) = true := by decide +kernel

/-- V41-16: DEY. -/
theorem test_V41_16_dey :
    gives { prog 0x0600 [0x88] [] with y := 0x80 } 2
      (fun t => { t with
          y := 0x7F, pc := 0x0601,
          p := { t.p with n := false, z := false } }) = true := by decide +kernel

/-- V42-2: PHA. -/
theorem test_V42_2_pha :
    gives { prog 0x0600 [0x48] [] with a := 0x99, sp := 0x00 } 3
      (fun t => { t with sp := 0xFF, pc := 0x0601, mem := putAll t.mem [(0x0100, 0x99)] }) = true := by decide +kernel

/-- V42-4: PLA. -/
theorem test_V42_4_pla :
    gives { prog 0x0600 [0x68] [(0x0100, 0x00)] with sp := 0xFF, a := 0x11 } 4
      (fun t => { t with
          a := 0x00, sp := 0x00, pc := 0x0601,
          p := { t.p with n := false, z := true } }) = true := by decide +kernel

/-- V42-7: PHP. -/
theorem test_V42_7_php :
    gives { prog 0x0600 [0x08] [] with sp := 0x80, p := { noFlags with c := true, z := true } } 3
      (fun t => { t with sp := 0x7F, pc := 0x0601, mem := putAll t.mem [(0x0180, 0x33)] }) = true := by decide +kernel

/-- V42-11: PLP. -/
theorem test_V42_11_plp :
    gives { prog 0x0600 [0x28] [(0x01FF, 0xC3)] with sp := 0xFE } 4
      (fun t => { t with
          sp := 0xFF, pc := 0x0601,
          p := { t.p with n := true, v := true, d := false, i := false, z := true, c := true } }) = true := by
  decide +kernel

/-- V42-12: CLC. -/
theorem test_V42_12_clc :
    gives { prog 0x0600 [0x18] [] with p := { noFlags with c := true } } 2
      (fun t => { t with pc := 0x0601, p := { t.p with c := false } }) = true := by decide +kernel

/-- V42-13: SEC. -/
theorem test_V42_13_sec :
    gives (prog 0x0600 [0x38] []) 2
      (fun t => { t with pc := 0x0601, p := { t.p with c := true } }) = true := by decide +kernel

/-- V42-14: CLD. -/
theorem test_V42_14_cld :
    gives { prog 0x0600 [0xD8] [] with p := { noFlags with d := true } } 2
      (fun t => { t with pc := 0x0601, p := { t.p with d := false } }) = true := by decide +kernel

/-- V42-15: SED. -/
theorem test_V42_15_sed :
    gives (prog 0x0600 [0xF8] []) 2
      (fun t => { t with pc := 0x0601, p := { t.p with d := true } }) = true := by decide +kernel

/-- V42-16: CLI. -/
theorem test_V42_16_cli :
    gives { prog 0x0600 [0x58] [] with p := { noFlags with i := true } } 2
      (fun t => { t with pc := 0x0601, p := { t.p with i := false } }) = true := by decide +kernel

/-- V42-17: SEI. -/
theorem test_V42_17_sei :
    gives (prog 0x0600 [0x78] []) 2
      (fun t => { t with pc := 0x0601, p := { t.p with i := true } }) = true := by decide +kernel

/-- V42-18: CLV. -/
theorem test_V42_18_clv :
    gives { prog 0x0600 [0xB8] [] with p := { noFlags with v := true } } 2
      (fun t => { t with pc := 0x0601, p := { t.p with v := false } }) = true := by decide +kernel

/-- V43-7: ASL $12F0,X. -/
theorem test_V43_7_asl_12f0_x :
    gives { prog 0x0600 [0x1E, 0xF0, 0x12] [(0x1310, 0xC0)] with x := 0x20 } 7
      (fun t => { t with
          pc := 0x0603,
          p := { t.p with n := true, z := false, c := true },
          mem := putAll t.mem [(0x1310, 0x80)] }) = true := by decide +kernel

/-- V43-9: LSR A. -/
theorem test_V43_9_lsr_a :
    gives { prog 0x0600 [0x4A] [] with a := 0xFF, p := { noFlags with n := true } } 2
      (fun t => { t with
          a := 0x7F, pc := 0x0601,
          p := { t.p with n := false, z := false, c := true } }) = true := by decide +kernel

/-- V43-17: ROL $81. -/
theorem test_V43_17_rol_81 :
    gives { prog 0x0600 [0x26, 0x81] [(0x0081, 0x12)] with p := { noFlags with c := true } } 5
      (fun t => { t with
          pc := 0x0602,
          p := { t.p with n := false, z := false, c := false },
          mem := putAll t.mem [(0x0081, 0x25)] }) = true := by decide +kernel

/-- V43-25: ROR $80,X. -/
theorem test_V43_25_ror_80_x :
    gives { prog 0x0600 [0x76, 0x80] [(0x0000, 0x01)] with x := 0x80 } 6
      (fun t => { t with
          pc := 0x0602,
          p := { t.p with n := false, z := true, c := true },
          mem := putAll t.mem [(0x0000, 0x00)] }) = true := by decide +kernel

/-- V44-4: LDA $C0,X. -/
theorem test_V44_4_lda_c0_x :
    gives { prog 0x0600 [0xB5, 0xC0] [(0x0040, 0x11), (0x0140, 0x22)] with x := 0x80 } 4
      (fun t => { t with
          a := 0x11, pc := 0x0602,
          p := { t.p with n := false, z := false } }) = true := by decide +kernel

/-- V44-8: LDA $FFF0,X. -/
theorem test_V44_8_lda_fff0_x :
    gives { prog 0x0600 [0xBD, 0xF0, 0xFF] [(0x0010, 0x03)] with x := 0x20 } 5
      (fun t => { t with
          a := 0x03, pc := 0x0603,
          p := { t.p with n := false, z := false } }) = true := by decide +kernel

/-- V44-9: LDA $10FF,Y. -/
theorem test_V44_9_lda_10ff_y :
    gives { prog 0x0600 [0xB9, 0xFF, 0x10] [(0x1100, 0x04)] with y := 0x01 } 5
      (fun t => { t with
          a := 0x04, pc := 0x0603,
          p := { t.p with n := false, z := false } }) = true := by decide +kernel

/-- V44-11: LDA ($FE,X). -/
theorem test_V44_11_lda_ind_fe_x :
    gives { prog 0x0600 [0xA1, 0xFE] [(0x00FF, 0x34), (0x0000, 0x12), (0x0100, 0x99), (0x1234, 0x5A), (0x9934, 0xEE)] with
      x := 0x01 } 6
      (fun t => { t with
          a := 0x5A, pc := 0x0602,
          p := { t.p with n := false, z := false } }) = true := by decide +kernel

/-- V44-16: LDA ($80),Y. -/
theorem test_V44_16_lda_ind_80_y :
    gives { prog 0x0600 [0xB1, 0x80] [(0x0080, 0xFF), (0x0081, 0xFF), (0x00FE, 0x21)] with y := 0xFF } 6
      (fun t => { t with
          a := 0x21, pc := 0x0602,
          p := { t.p with n := false, z := false } }) = true := by decide +kernel

/-- V44-19: LDX $F0,Y. -/
theorem test_V44_19_ldx_f0_y :
    gives { prog 0x0600 [0xB6, 0xF0] [(0x0010, 0x33)] with y := 0x20 } 4
      (fun t => { t with
          x := 0x33, pc := 0x0602,
          p := { t.p with n := false, z := false } }) = true := by decide +kernel

/-- V44-26: LDY $1234,X. -/
theorem test_V44_26_ldy_1234_x :
    gives { prog 0x0600 [0xBC, 0x34, 0x12] [(0x1300, 0x7E)] with x := 0xCC } 5
      (fun t => { t with
          y := 0x7E, pc := 0x0603,
          p := { t.p with n := false, z := false } }) = true := by decide +kernel

/-- V44-27: STA $90. -/
theorem test_V44_27_sta_90 :
    gives { prog 0x0600 [0x85, 0x90] [] with a := 0x00, p := { noFlags with n := true } } 3
      (fun t => { t with pc := 0x0602, mem := putAll t.mem [(0x0090, 0x00)] }) = true := by decide +kernel

/-- V44-31: STA $10F0,X. -/
theorem test_V44_31_sta_10f0_x :
    gives { prog 0x0600 [0x9D, 0xF0, 0x10] [] with a := 0x01, x := 0x20 } 5
      (fun t => { t with pc := 0x0603, mem := putAll t.mem [(0x1110, 0x01)] }) = true := by decide +kernel

/-- V44-34: STA ($82),Y. -/
theorem test_V44_34_sta_ind_82_y :
    gives { prog 0x0600 [0x91, 0x82] [(0x0082, 0x01), (0x0083, 0x50)] with a := 0x04, y := 0xFF } 6
      (fun t => { t with pc := 0x0602, mem := putAll t.mem [(0x5100, 0x04)] }) = true := by decide +kernel

/-- V44-36: STX $F0,Y. -/
theorem test_V44_36_stx_f0_y :
    gives { prog 0x0600 [0x96, 0xF0] [] with x := 0x12, y := 0x11 } 4
      (fun t => { t with pc := 0x0602, mem := putAll t.mem [(0x0001, 0x12)] }) = true := by decide +kernel

/-- V44-39: STY $84,X. -/
theorem test_V44_39_sty_84_x :
    gives { prog 0x0600 [0x94, 0x84] [] with y := 0x22, x := 0x01 } 4
      (fun t => { t with pc := 0x0602, mem := putAll t.mem [(0x0085, 0x22)] }) = true := by decide +kernel

/-- V45-5: ADC #$90. -/
theorem test_V45_5_adc_imm_90 :
    gives { prog 0x0600 [0x69, 0x90] [] with a := 0xD0 } 2
      (fun t => { t with
          a := 0x60, pc := 0x0602,
          p := { t.p with n := false, v := true, z := false, c := true } }) = true := by decide +kernel

/-- V45-23: SBC #$42. -/
theorem test_V45_23_sbc_imm_42 :
    gives { prog 0x0600 [0xE9, 0x42] [] with a := 0x42 } 2
      (fun t => { t with
          a := 0xFF, pc := 0x0602,
          p := { t.p with n := true, v := false, z := false, c := false } }) = true := by decide +kernel

/-- V45-43: ADC #$46. -/
theorem test_V45_43_adc_imm_46 :
    gives { prog 0x0600 [0x69, 0x46] [] with a := 0x58, p := { noFlags with c := true, d := true } } 2
      (fun t => { t with
          a := 0x05, pc := 0x0602,
          p := { t.p with n := true, v := true, z := false, c := true } }) = true := by decide +kernel

/-- V45-47: SBC #$01. -/
theorem test_V45_47_sbc_imm_01 :
    gives { prog 0x0600 [0xE9, 0x01] [] with a := 0x00, p := { noFlags with c := true, d := true } } 2
      (fun t => { t with
          a := 0x99, pc := 0x0602,
          p := { t.p with n := true, v := false, z := false, c := false } }) = true := by decide +kernel

/-- V45-65: AND $12FF,X. -/
theorem test_V45_65_and_12ff_x :
    gives { prog 0x0600 [0x3D, 0xFF, 0x12] [(0x1300, 0x7F)] with a := 0xFF, x := 0x01 } 5
      (fun t => { t with
          a := 0x7F, pc := 0x0603,
          p := { t.p with n := false, z := false } }) = true := by decide +kernel

/-- V45-76: ORA ($80,X). -/
theorem test_V45_76_ora_ind_80_x :
    gives { prog 0x0600 [0x01, 0x80] [(0x0084, 0x00), (0x0085, 0x40), (0x4000, 0x99)] with a := 0x00, x := 0x04 } 6
      (fun t => { t with
          a := 0x99, pc := 0x0602,
          p := { t.p with n := true, z := false } }) = true := by decide +kernel

/-- V45-86: EOR ($80),Y. -/
theorem test_V45_86_eor_ind_80_y :
    gives { prog 0x0600 [0x51, 0x80] [(0x0080, 0x00), (0x0081, 0x20), (0x2005, 0x80)] with a := 0x01, y := 0x05 } 5
      (fun t => { t with
          a := 0x81, pc := 0x0602,
          p := { t.p with n := true, z := false } }) = true := by decide +kernel

/-- V45-90: CMP #$01. -/
theorem test_V45_90_cmp_imm_01 :
    gives { prog 0x0600 [0xC9, 0x01] [] with a := 0x80 } 2
      (fun t => { t with
          pc := 0x0602,
          p := { t.p with n := false, z := false, c := true } }) = true := by decide +kernel

/-- V45-100: CPX #$06. -/
theorem test_V45_100_cpx_imm_06 :
    gives { prog 0x0600 [0xE0, 0x06] [] with x := 0x04 } 2
      (fun t => { t with
          pc := 0x0602,
          p := { t.p with n := true, z := false, c := false } }) = true := by decide +kernel

/-- V45-105: CPY $80. -/
theorem test_V45_105_cpy_80 :
    gives { prog 0x0600 [0xC4, 0x80] [(0x0080, 0x00)] with y := 0xFF } 3
      (fun t => { t with
          pc := 0x0602,
          p := { t.p with n := true, z := false, c := true } }) = true := by decide +kernel

/-- V45-110: BIT $1234. -/
theorem test_V45_110_bit_1234 :
    gives { prog 0x0600 [0x2C, 0x34, 0x12] [(0x1234, 0x80)] with a := 0x80, p := { noFlags with c := true } } 4
      (fun t => { t with
          pc := 0x0603,
          p := { t.p with n := true, v := false, z := false } }) = true := by decide +kernel

/-- V46-2: INC $FF. -/
theorem test_V46_2_inc_ff :
    gives { prog 0x0600 [0xE6, 0xFF] [(0x00FF, 0xFF)] with p := { noFlags with c := true } } 5
      (fun t => { t with
          pc := 0x0602,
          p := { t.p with n := false, z := true },
          mem := putAll t.mem [(0x00FF, 0x00)] }) = true := by decide +kernel

/-- V46-9: DEC $0400,X. -/
theorem test_V46_9_dec_0400_x :
    gives { prog 0x0600 [0xDE, 0x00, 0x04] [(0x0402, 0x00)] with x := 0x02 } 7
      (fun t => { t with
          pc := 0x0603,
          p := { t.p with n := true, z := false },
          mem := putAll t.mem [(0x0402, 0xFF)] }) = true := by decide +kernel

/-- V47-1: JMP $C000. -/
theorem test_V47_1_jmp_c000 :
    gives { prog 0x0600 [0x4C, 0x00, 0xC0] [] with p := { noFlags with n := true, c := true } } 3
      (fun t => { t with pc := 0xC000 }) = true := by decide +kernel

/-- V47-3: JMP ($30FF). -/
theorem test_V47_3_jmp_ind_30ff :
    gives (prog 0x0600 [0x6C, 0xFF, 0x30] [(0x30FF, 0x80), (0x3100, 0x40), (0x3000, 0x50)]) 5
      (fun t => { t with pc := 0x5080 }) = true := by decide +kernel

/-- V47-8: JSR $1234. -/
theorem test_V47_8_jsr_1234 :
    gives { prog 0x0600 [0x20, 0x34, 0x12] [] with sp := 0x00 } 6
      (fun t => { t with
          sp := 0xFE, pc := 0x1234,
          mem := putAll t.mem [(0x0100, 0x06), (0x01FF, 0x02)] }) = true := by decide +kernel

/-- V47-10: RTS. -/
theorem test_V47_10_rts :
    gives { prog 0x1234 [0x60] [(0x01FE, 0xFF), (0x01FF, 0xFF)] with sp := 0xFD } 6
      (fun t => { t with sp := 0xFF, pc := 0x0000 }) = true := by decide +kernel

/-- V47-12: BRK. -/
theorem test_V47_12_brk :
    gives { prog 0x0600 [0x00] [(0xFFFE, 0x34), (0xFFFF, 0x12)] with
      sp := 0xFF, p := { noFlags with d := true, i := true, n := true, v := true } } 7
      (fun t => { t with
          sp := 0xFC, pc := 0x1234,
          p := { t.p with i := true },
          mem := putAll t.mem [(0x01FF, 0x06), (0x01FE, 0x02), (0x01FD, 0xFC)] }) = true := by decide +kernel

/-- V47-14: RTI. -/
theorem test_V47_14_rti :
    gives { prog 0x8000 [0x40] [(0x01FD, 0xCC), (0x01FE, 0x00), (0x01FF, 0x10)] with
      sp := 0xFC, p := { noFlags with i := true } } 6
      (fun t => { t with
          sp := 0xFF, pc := 0x1000,
          p := { t.p with n := true, v := true, d := true, i := true, z := false, c := false } }) = true := by
  decide +kernel

/-- V47-15: NOP. -/
theorem test_V47_15_nop :
    gives { prog 0x0600 [0xEA] [] with a := 0x01, x := 0x02, y := 0x03, p := { noFlags with n := true, c := true } } 2
      (fun t => { t with pc := 0x0601 }) = true := by decide +kernel

/-- V47-38: BCC $02. -/
theorem test_V47_38_bcc_02 :
    gives (prog 0x06FD [0x90, 0x02] []) 4
      (fun t => { t with pc := 0x0701 }) = true := by decide +kernel

/-- V47-40: BCS $FD. -/
theorem test_V47_40_bcs_fd :
    gives { prog 0x0000 [0xB0, 0xFD] [] with p := { noFlags with c := true } } 4
      (fun t => { t with pc := 0xFFFF }) = true := by decide +kernel

/-- V47-37: BEQ $00. -/
theorem test_V47_37_beq_00 :
    gives { prog 0x0600 [0xF0, 0x00] [] with p := { noFlags with z := true } } 3
      (fun t => { t with pc := 0x0602 }) = true := by decide +kernel

/-- V47-26: BNE $DE. -/
theorem test_V47_26_bne_de :
    gives (prog 0x1000 [0xD0, 0xDE] []) 4
      (fun t => { t with pc := 0x0FE0 }) = true := by decide +kernel

/-- V47-30: BMI $FE. -/
theorem test_V47_30_bmi_fe :
    gives (prog 0x0600 [0x30, 0xFE] []) 2
      (fun t => { t with pc := 0x0602 }) = true := by decide +kernel

/-- V47-31: BPL $F9. -/
theorem test_V47_31_bpl_f9 :
    gives (prog 0x0607 [0x10, 0xF9] []) 3
      (fun t => { t with pc := 0x0602 }) = true := by decide +kernel

/-- V47-33: BVC $7F. -/
theorem test_V47_33_bvc_7f :
    gives (prog 0x0600 [0x50, 0x7F] []) 3
      (fun t => { t with pc := 0x0681 }) = true := by decide +kernel

/-- V47-35: BVS $80. -/
theorem test_V47_35_bvs_80 :
    gives { prog 0x0600 [0x70, 0x80] [] with p := { noFlags with v := true } } 4
      (fun t => { t with pc := 0x0582 }) = true := by decide +kernel

/-! Stops, events, and the host's two entries. -/

/-- V30-2 and V45-40: an undefined opcode, and ADC with D = 1 under `refuse`. -/
theorem test_refusals :
    refusalOf (step (prog 0x0600 [0x80] [])) = some (.undefinedOpcode 0x80 0x0600) ∧
    refusalOf (step { prog 0x0600 [0x69, 0x01] [] with
      a := 0x09, p := { noFlags with d := true }, params := { Params.default with decimal := .refuse } }) =
      some .decimalArithmetic := by decide +kernel

/-- The state of X1: the IRQ line asserted at this boundary. -/
def x1 : State :=
  { prog 0x0600 [0xEA] [(0xFFFE, 0x00), (0xFFFF, 0x90), (0xFFFA, 0x00), (0xFFFB, 0xA0), (0xFFFC, 0x00), (0xFFFD, 0x80),
      (0x9000, 0x40)] with
    p := { noFlags with z := true, c := true }, iPoll := false, inputs := [{ Lines.released with irq := true }] }

/-- X1: IRQ is taken. -/
theorem test_X1_irq : nextOf (step x1) = some { x1 with
    mem := putAll x1.mem [(0x01FF, 0x06), (0x01FE, 0x00), (0x01FD, 0x23)], sp := 0xFC, pc := 0x9000
    p := { noFlags with z := true, c := true, i := true }, iPoll := true
    lines := { Lines.released with irq := true }, inputs := [] } := by decide +kernel

/-- X2: with I = 1 the instruction executes. -/
theorem test_X2_masked :
    (nextOf (step { x1 with p := { x1.p with i := true }, iPoll := true })).map State.pc = some 0x0601 := by
  decide +kernel

/-- X3: NMI is taken although I = 1, and before the IRQ that is asserted as well. -/
theorem test_X3_nmi :
    (nextOf (step { x1 with
      p := { x1.p with i := true }, inputs := [{ reset := false, nmi := true, irq := true }] })).map
      (fun t => (t.pc, t.sp, t.peek 0x01FF, t.peek 0x01FE, t.peek 0x01FD, t.p.i)) =
    some (0xA000, 0xFC, 0x06, 0x00, 0x27, true) := by decide +kernel

/-- X4: after X1, RTI at the handler resumes the program. -/
theorem test_X4_resume :
    ((nextOf (step x1)).bind fun t => nextOf (step t)).map (fun t => (t.pc, t.sp, t.p)) =
    some (0x0600, 0xFF, { noFlags with z := true, c := true }) := by decide +kernel

/-- X5: RESET, with NMI and IRQ asserted as well. -/
theorem test_X5_reset :
    (nextOf (step { x1 with inputs := [{ reset := true, nmi := true, irq := true }] })).map
      (fun t => (t.pc, t.p.i, t.mem == x1.mem, t.nmiPending)) = some (0x8000, true, true, false) := by decide +kernel

/-- `30_encoding.md` R56: `4C 34 12` is JMP $1234, and from reset it is what the next step runs. -/
theorem test_table_word :
    decodeTableWord 24 0x12344C = some (.jmpAbs 0x1234) ∧
    (nextOf (step (State.reset.withFetchWord 24 0x12344C))).map State.pc = some 0x1234 := by decide +kernel

/-- `70_reset_and_hazards.md` R190: JMP to its own address, JMP indirect to it, and a taken branch with displacement
`$FE` loop in place. -/
theorem test_loops_in_place :
    (prog 0x0600 [0x4C, 0x00, 0x06] []).loopsInPlace = true ∧
    (prog 0x0600 [0x6C, 0x00, 0x20] [(0x2000, 0x00), (0x2001, 0x06)]).loopsInPlace = true ∧
    (prog 0x0600 [0xD0, 0xFE] []).loopsInPlace = true := by decide +kernel

/-- An untaken branch, another displacement, and BRK, JSR and RTS that come back to themselves do not; nor does JMP at
a boundary that takes an event. -/
theorem test_does_not_loop_in_place :
    (prog 0x0600 [0xF0, 0xFE] []).loopsInPlace = false ∧ (prog 0x0600 [0xD0, 0xFD] []).loopsInPlace = false ∧
    State.reset.loopsInPlace = false ∧ (prog 0x0600 [0x20, 0x00, 0x06] []).loopsInPlace = false ∧
    (prog 0x0600 [0x60] [(0x0100, 0xFF), (0x0101, 0x05)]).loopsInPlace = false ∧
    ({ prog 0x0600 [0x4C, 0x00, 0x06] [] with nmiPending := true } : State).loopsInPlace = false := by decide +kernel

/-! Witnesses: for every statement with premises, states and operands that meet them. -/

/-- All of the map is `ram`; every index wraps; `S = 0`. -/
def flat : State := { prog 0xFFFE [0xEA] [] with x := 0xFF, y := 0x01, sp := 0x00 }

/-- A map with each kind: `rom` $FF00 to $FFFF, `device` $D000 to $D00F, `absent` at $C000 alone, `ram` elsewhere. -/
def mapped (pc : Word) (bytes : List Byte) : State :=
  { prog pc bytes [(0xFFFE, 0x34), (0xFFFF, 0x12)] with
    params := { Params.default with memMap :=
      [{ base := 0xFF00, size := 0x100, kind := .rom }, { base := 0xD000, size := 0x10, kind := .device },
        { base := 0xC000, size := 1, kind := .absent }] } }

theorem inv_of {s : State} (h : s.mem.wf = true) : Inv s := h

theorem flat_plain (a : Word) : flat.Plain a := .inl rfl

theorem flat_ram (a : Word) : flat.kindAt a = .ram := rfl

theorem flat_not_device (a : Word) : flat.kindAt a ≠ .device := by simp [flat_ram]

theorem test_map_bounds :
    (mapped 0 []).kindAt 0xFEFF = .ram ∧ (mapped 0 []).kindAt 0xFF00 = .rom ∧ (mapped 0 []).kindAt 0xFFFF = .rom ∧
    (mapped 0 []).kindAt 0xCFFF = .ram ∧ (mapped 0 []).kindAt 0xD000 = .device ∧
    (mapped 0 []).kindAt 0xD00F = .device ∧ (mapped 0 []).kindAt 0xD010 = .ram ∧
    (mapped 0 []).kindAt 0xC000 = .absent := by decide +kernel

theorem witness_DecodeOfEncode : WellFormed (.bne (-128)) ∧ WellFormed (.bne 127) ∧ WellFormed (.ldaAbs 0xFFFF) := by
  decide

theorem witness_EncodeOfDecode : decode [0xD0, 0x80, 0xEA] = .ok (.bne (-128), [0xEA]) := rfl

/-- STA $FFFF at the top of memory, and the same with the map that has `rom` there. -/
theorem witness_StepKeepsMemoryCanonical :
    Inv (prog 0xFFFC [0x8D, 0xFF, 0xFF] []) ∧ ∃ t, step (prog 0xFFFC [0x8D, 0xFF, 0xFF] []) = .next t :=
  ⟨inv_of (by decide +kernel), next_of_isSome (by decide +kernel)⟩

/-- Two steps, the first of which stores to the `rom` address $FF00. -/
theorem witness_RomNeverChanges :
    (mapped 0x0600 [0x8D, 0x00, 0xFF, 0xEA]).kindAt 0xFF00 = .rom ∧
    ∃ t, Host.Core.run core 2 (mapped 0x0600 [0x8D, 0x00, 0xFF, 0xEA]) = .next t :=
  ⟨by decide +kernel, next_of_isSome (r := Host.Core.run core 2 (mapped 0x0600 [0x8D, 0x00, 0xFF, 0xEA]))
    (by decide +kernel)⟩

theorem witness_ParametersNeverChange : ∃ t, step (mapped 0x0600 [0xEA]) = .next t :=
  next_of_isSome (by decide +kernel)

/-- A branch whose two bytes lie at $FFFF and $0000. -/
theorem witness_StepRunsDecodedInstruction :
    let s := prog 0xFFFF [0xD0, 0x80] []
    s.Quiet ∧ WellFormed (.bne (-128)) ∧ (∀ k, k < 2 → s.Plain (s.pc + BitVec.ofNat 16 k)) ∧
    Decodes ((List.range 2).map fun k => s.peek (s.pc + BitVec.ofNat 16 k)) (.bne (-128)) :=
  ⟨by unfold State.Quiet; decide +kernel, by decide, fun _ _ => .inl rfl, by unfold Decodes; rfl⟩

theorem witness_UndefinedOpcodeRefused :
    let s := prog 0xFFFF [0xFF] []
    s.Quiet ∧ s.Plain s.pc ∧ s.peek s.pc ∈ undefinedOpcodes :=
  ⟨by unfold State.Quiet; decide +kernel, .inl rfl, by decide +kernel⟩

/-- ADC with D = 1 under `nmosBcd`, and a JSR whose third byte is the byte just above the stack byte. -/
theorem witness_EveryInstructionCompletes :
    (∀ a, flat.kindAt a ≠ .device) ∧
    ({ flat with p := { noFlags with d := true } } : State).params.decimal ≠ .refuse ∧
    ¬ overwritesOperand { flat with pc := 0x00FF } :=
  ⟨flat_not_device, by decide, by unfold overwritesOperand; decide +kernel⟩

/-- One refused step for each of the four grounds. -/
theorem witness_StepRefusesOnlyAsTheSpecSays :
    refusalOf (step (prog 0x0600 [0x02] [])) = some (.undefinedOpcode 0x02 0x0600) ∧
    refusalOf (step { prog 0x0600 [0xE9, 0x01] [] with
      p := { noFlags with d := true }, params := { Params.default with decimal := .refuse } }) =
      some .decimalArithmetic ∧
    refusalOf (step (mapped 0x0600 [0xAD, 0x0F, 0xD0])) = some (.deviceAccess 0xD00F) ∧
    refusalOf (step (prog 0x01FD [0x20, 0x00, 0x80] [])) = some (.jsrOverwritesOperand 0x01FD) := by decide +kernel

theorem witness_AddressMapDecidesAccess :
    (mapped 0 []).kindAt 0xFFFF = .rom ∧ (mapped 0 []).kindAt 0xC000 = .absent ∧
    (mapped 0 []).kindAt 0xD00F = .device := by decide +kernel

/-- Pushes at `S = 0`, in `ram`; pulls at `S = $FF`, where the byte above is $0100. -/
theorem witness_StackInstructionsPushAndPull :
    flat.kindAt (stackByte flat.sp) ≠ .device ∧
    ({ flat with sp := 0xFF } : State).Plain (stackByte (0xFF + 1)) := ⟨flat_not_device _, .inl rfl⟩

/-- The premise of the memory forms of the four shifts, INC and DEC: it holds at every operand, the wraps included,
and at a `rom` address. -/
theorem witness_ShiftForms :
    (∀ d, flat.Plain (wordOf 0 d)) ∧ (∀ d, flat.Plain (wordOf 0 (d + flat.x))) ∧ (∀ l h, flat.Plain (wordOf h l)) ∧
    (∀ l h, flat.Plain (wordOf h l + zext16 flat.x)) ∧ (mapped 0 []).Plain 0xFFFF :=
  ⟨fun _ => flat_plain _, fun _ => flat_plain _, fun _ _ => flat_plain _, fun _ _ => flat_plain _,
    .inr (by decide +kernel)⟩

theorem witness_AslForms : flat.Plain (wordOf 0x00 0xFF) ∧ flat.Plain (wordOf 0x00 (0x01 + flat.x)) := by
  exact ⟨flat_plain _, flat_plain _⟩

theorem witness_LsrForms : flat.Plain (wordOf 0xFF 0xFF) ∧ flat.Plain (wordOf 0xFF 0xFF + zext16 flat.x) := by
  exact ⟨flat_plain _, flat_plain _⟩

theorem witness_RolForms : flat.Plain (wordOf 0x00 0x00) ∧ flat.Plain (wordOf 0x12 0xF0 + zext16 flat.x) := by
  exact ⟨flat_plain _, flat_plain _⟩

theorem witness_RorForms : flat.Plain (wordOf 0x00 (0x80 + flat.x)) ∧ flat.Plain (wordOf 0x12 0x34) := by
  exact ⟨flat_plain _, flat_plain _⟩

theorem witness_IncDecForms : flat.Plain (wordOf 0x00 0xFF) ∧ flat.Plain (wordOf 0xFF 0xFF + zext16 flat.x) := by
  exact ⟨flat_plain _, flat_plain _⟩

/-- The premises of the forms that read an operand: at every operand byte, with the pointer at $FF and $00. -/
theorem witness_LdaForms :
    always flat ∧ (∀ a, flat.Plain a) ∧ flat.Plain (wordOf 0 (0x00 + flat.x + 1)) ∧
    flat.Plain (zpPointer flat (0x00 + flat.x)) ∧ flat.Plain (zpPointer flat 0xFF + zext16 flat.y) :=
  ⟨trivial, flat_plain, flat_plain _, flat_plain _, flat_plain _⟩

theorem witness_LdxLdyForms : always flat ∧ flat.Plain (wordOf 0 (0xFF + flat.y)) ∧
    flat.Plain (wordOf 0xFF 0xFF + zext16 flat.y) := ⟨trivial, flat_plain _, flat_plain _⟩

/-- At an address of each kind but `device`. -/
theorem witness_StoreForms :
    (mapped 0 []).kindAt (wordOf 0x00 0xFF) ≠ .device ∧ (mapped 0 []).kindAt (wordOf 0xFF 0xFF) ≠ .device ∧
    (mapped 0 []).kindAt (wordOf 0xC0 0x00) ≠ .device ∧ flat.Plain (wordOf 0 (0x00 + flat.x)) ∧
    flat.Plain (wordOf 0 (0x00 + flat.x + 1)) ∧ flat.kindAt (zpPointer flat 0xFF + zext16 flat.y) ≠ .device :=
  ⟨by decide +kernel, by decide +kernel, by decide +kernel, flat_plain _, flat_plain _, flat_not_device _⟩

/-- Binary by `D = 0` and by `DecimalMode = binary`; decimal. -/
theorem witness_AdcForms :
    binaryArith flat ∧ binaryArith { flat with
      p := { noFlags with d := true }, params := { Params.default with decimal := .binary } } ∧
    decimalArith { flat with p := { noFlags with d := true } } ∧ ∀ a, flat.Plain a :=
  ⟨.inl rfl, .inr rfl, ⟨rfl, rfl⟩, flat_plain⟩

theorem witness_SbcForms :
    binaryArith flat ∧ decimalArith { flat with p := { noFlags with d := true, c := true } } ∧ ∀ a, flat.Plain a :=
  ⟨.inl rfl, ⟨rfl, rfl⟩, flat_plain⟩

theorem witness_DecimalRefusedByMode :
    let s : State := { flat with p := { noFlags with d := true }, params := { Params.default with decimal := .refuse } }
    s.p.d = true ∧ s.params.decimal = .refuse ∧ (Instr.sbcIndY 0xFF).mnemonic ∈ [Mnemonic.adc, .sbc] := by decide

theorem witness_LogicForms : always flat ∧ flat.Plain (zpPointer flat 0xFF + zext16 flat.y) := ⟨trivial, flat_plain _⟩

theorem witness_CompareForms : always flat ∧ flat.Plain (zpPointer flat (0x00 + flat.x)) := ⟨trivial, flat_plain _⟩

theorem witness_BitForms : always flat ∧ flat.Plain (wordOf 0 0xFF) ∧ flat.Plain (wordOf 0xFF 0xFF) :=
  ⟨trivial, flat_plain _, flat_plain _⟩

theorem witness_JmpForms : flat.Plain (wordOf 0x30 0xFF) ∧ flat.Plain (wordOf 0x30 (0xFF + 1)) :=
  ⟨flat_plain _, flat_plain _⟩

/-- The third byte at `$01 : S`, at `$01 : (S - 1)` with the wrap, and just above both. -/
theorem witness_JsrPushesReturnAddress :
    overwritesOperand { flat with pc := 0x00FE } ∧ overwritesOperand { flat with pc := 0x01FD } ∧
    ¬ overwritesOperand { flat with pc := 0x00FF } ∧ flat.kindAt (stackByte flat.sp) ≠ .device ∧
    flat.kindAt (stackByte (flat.sp - 1)) ≠ .device :=
  ⟨by unfold overwritesOperand; decide +kernel, by unfold overwritesOperand; decide +kernel,
    by unfold overwritesOperand; decide +kernel, flat_not_device _, flat_not_device _⟩

theorem witness_RtsPullsReturnAddress :
    flat.Plain (stackByte (flat.sp + 1)) ∧ flat.Plain (stackByte (flat.sp + 2)) := ⟨flat_plain _, flat_plain _⟩

/-- With the vector in `rom`. -/
theorem witness_BrkTakesTheTrap :
    let s := mapped 0x0600 [0x00]
    s.kindAt (stackByte s.sp) ≠ .device ∧ s.kindAt (stackByte (s.sp - 1)) ≠ .device ∧
    s.kindAt (stackByte (s.sp - 2)) ≠ .device ∧ s.Plain 0xFFFE ∧ s.Plain 0xFFFF :=
  ⟨by decide +kernel, by decide +kernel, by decide +kernel, .inr (by decide +kernel), .inr (by decide +kernel)⟩

theorem witness_RtiRestoresFlagsAndPc :
    flat.Plain (stackByte (flat.sp + 1)) ∧ flat.Plain (stackByte (flat.sp + 2)) ∧
    flat.Plain (stackByte (flat.sp + 3)) := ⟨flat_plain _, flat_plain _, flat_plain _⟩

/-- NMI asserted as at the sample before, IRQ newly asserted. -/
theorem witness_IrqEntersHandler :
    let l : Lines := { reset := false, nmi := true, irq := true }
    let s : State := { flat with lines := { Lines.released with nmi := true }, iPoll := false, inputs := [l] }
    s.inputs = l :: [] ∧ l.reset = false ∧ s.nmiPending = false ∧ (l.nmi = true → s.lines.nmi = true) ∧ l.irq = true ∧
    s.iPoll = false ∧ s.kindAt (stackByte s.sp) ≠ .device ∧ s.kindAt (stackByte (s.sp - 1)) ≠ .device ∧
    s.kindAt (stackByte (s.sp - 2)) ≠ .device ∧ s.Plain 0xFFFE ∧ s.Plain 0xFFFF :=
  ⟨rfl, rfl, rfl, fun _ => rfl, rfl, rfl, by decide, by decide, by decide, .inl rfl, .inl rfl⟩

/-- A newly asserted line, and a latched request. -/
theorem witness_NmiEntersHandler :
    let l : Lines := { reset := false, nmi := true, irq := true }
    let s : State := { flat with inputs := [l] }
    let u : State := { flat with inputs := [Lines.released], nmiPending := true }
    s.inputs = l :: [] ∧ l.reset = false ∧ (l.nmi = true ∧ s.lines.nmi = false) ∧
    u.inputs = Lines.released :: [] ∧ u.nmiPending = true ∧
    s.kindAt (stackByte s.sp) ≠ .device ∧ s.kindAt (stackByte (s.sp - 1)) ≠ .device ∧
    s.kindAt (stackByte (s.sp - 2)) ≠ .device ∧ s.Plain 0xFFFA ∧ s.Plain 0xFFFB :=
  ⟨rfl, rfl, ⟨rfl, rfl⟩, rfl, rfl, by decide, by decide, by decide, .inl rfl, .inl rfl⟩

/-- With reset values supplied and without. -/
theorem witness_ResetEventRestarts :
    let l : Lines := { reset := true, nmi := true, irq := true }
    let r : ResetValues :=
      { a := 1, x := 2, y := 3, sp := 0xFD, c := true, z := true, d := true, v := true, n := true }
    let s : State := { flat with inputs := [l], params := { Params.default with resetState := some r } }
    let u : State := { flat with inputs := [l] }
    s.inputs = l :: [] ∧ l.reset = true ∧ s.Plain 0xFFFC ∧ s.Plain 0xFFFD ∧ s.params.resetState = some r ∧
    u.inputs = l :: [] ∧ u.Plain 0xFFFC ∧ u.Plain 0xFFFD :=
  ⟨rfl, rfl, .inl rfl, .inl rfl, rfl, rfl, .inl rfl, .inl rfl⟩

/-- IRQ asserted while masked, and NMI held. -/
theorem witness_MaskedOrHeldLinesAreQuiet :
    let l : Lines := { reset := false, nmi := true, irq := true }
    let s : State := { flat with lines := l, iPoll := true, inputs := [l] }
    s.inputs = l :: [] ∧ l.reset = false ∧ s.nmiPending = false ∧ (l.nmi = true → s.lines.nmi = true) ∧
    (l.irq = true → s.iPoll = true) := ⟨rfl, rfl, rfl, fun _ => rfl, fun _ => rfl⟩

/-- CLI and a NOP after it, with IRQ asserted at the boundary between them. -/
theorem witness_CliLetsOneInstructionRun :
    let s : State := { prog 0x0600 [0x58, 0xEA] [] with p := { noFlags with i := true } }
    s.Quiet ∧ s.Plain s.pc ∧ s.peek s.pc = 0x58 ∧ s.p.i = true ∧
    ∃ t, step s = .next t ∧ t.Plain t.pc ∧ t.peek t.pc = 0xEA ∧
      ∃ u, step { t with inputs := [{ Lines.released with irq := true }] } = .next u :=
  ⟨by unfold State.Quiet; decide +kernel, .inl rfl, by decide +kernel, rfl, _, rfl, .inl rfl, by decide +kernel,
    next_of_isSome (by decide +kernel)⟩

/-- A JSR with `S = 0`: the stack wraps. -/
theorem witness_JsrThenRtsReturns :
    Inv flat ∧ flat.kindAt (stackByte flat.sp) = .ram ∧ flat.kindAt (stackByte (flat.sp - 1)) = .ram ∧
    ∃ t, exec (.jsr 0xFFFF) flat = .next t :=
  ⟨inv_of (by decide +kernel), rfl, rfl, next_of_isSome (by decide +kernel)⟩

theorem witness_BrkThenRtiReturns :
    Inv flat ∧ flat.kindAt (stackByte flat.sp) = .ram ∧ flat.kindAt (stackByte (flat.sp - 1)) = .ram ∧
    flat.kindAt (stackByte (flat.sp - 2)) = .ram ∧ ∃ t, exec .brk flat = .next t :=
  ⟨inv_of (by decide +kernel), rfl, rfl, rfl, next_of_isSome (by decide +kernel)⟩

/-- For IRQ (X1) and for NMI. -/
theorem witness_InterruptThenRtiResumes :
    let u : State := { x1 with nmiPending := true }
    Inv x1 ∧ x1.kindAt (stackByte x1.sp) = .ram ∧ x1.kindAt (stackByte (x1.sp - 1)) = .ram ∧
    x1.kindAt (stackByte (x1.sp - 2)) = .ram ∧ pendingEvent (sampleLines x1) = .irq ∧ (∃ t, step x1 = .next t) ∧
    Inv u ∧ pendingEvent (sampleLines u) = .nmi ∧ ∃ t, step u = .next t :=
  ⟨inv_of (by decide +kernel), rfl, rfl, rfl, by decide +kernel, next_of_isSome (by decide +kernel), inv_of (by decide +kernel),
    by decide +kernel, next_of_isSome (by decide +kernel)⟩

/-- CMP, CPX and CPY are in the list; the signed difference at the lowest value that fits, one below and one above the
range. -/
theorem witness_CompareThenBranch :
    (∀ f ∈ [(Instr.cmpImm, flat.a), (Instr.cpxImm, flat.x), (Instr.cpyImm, flat.y)],
      ∃ t, exec (f.1 0x01) flat = .next t) ∧
    (0x80 : Byte).toInt - (0x00 : Byte).toInt = -128 ∧ (0x80 : Byte).toInt - (0x01 : Byte).toInt = -129 ∧
    (0x7F : Byte).toInt - (0xFF : Byte).toInt = 128 := by
  refine ⟨fun f hf => ?_, by decide⟩
  have h : [(Instr.cmpImm, flat.a), (Instr.cpxImm, flat.x), (Instr.cpyImm, flat.y)].all
      (fun f => (nextOf (exec (f.1 0x01) flat)).isSome) = true := by decide +kernel
  exact next_of_isSome (List.all_eq_true.mp h f hf)

theorem witness_ArithmeticReportsBothOutcomes : flat.p.d = false := rfl

theorem witness_SbcIsAdcOfComplement : ({ flat with p := { noFlags with c := true } } : State).p.d = false := rfl

/-- 99 and 99, and 0 and 99. -/
theorem witness_DecimalArithmeticOnDigits :
    let s : State := { flat with a := 0x99, p := { noFlags with d := true } }
    let u : State := { flat with a := 0x00, p := { noFlags with d := true } }
    s.a = bcd 99 ∧ s.p.d = true ∧ s.params.decimal = .nmosBcd ∧ u.a = bcd 0 ∧ u.p.d = true ∧
    u.params.decimal = .nmosBcd := by decide

/-- The address after the STA wraps to $0001. -/
theorem witness_StoreIsSeenByNextFetch : Inv flat ∧ flat.kindAt (flat.pc + 3) = .ram := ⟨inv_of (by decide +kernel), rfl⟩

/-- LDA of an absent address, and ROR A. -/
theorem witness_NothingStoredByOthers :
    (storesNothing (.ldaAbs 0xC000) ∧ ∃ t, exec (.ldaAbs 0xC000) (mapped 0 []) = .next t) ∧
    storesNothing .rorA ∧ ∃ t, exec .rorA flat = .next t :=
  ⟨⟨by unfold storesNothing; decide, next_of_isSome (by decide +kernel)⟩, by unfold storesNothing; decide,
    next_of_isSome (by decide +kernel)⟩

/-- Every one of the thirteen forms answers a next state, at operands that wrap. -/
theorem witness_StoreFrames :
    ∀ f ∈ storeForms 0x00 0xFFFF, ∃ t, exec f.1 flat = .next t := by
  have h : (storeForms 0x00 0xFFFF).all (fun f => (nextOf (exec f.1 flat)).isSome) = true := by decide +kernel
  exact fun f hf => next_of_isSome (List.all_eq_true.mp h f hf)

/-- Every one of the 24 forms answers a next state. -/
theorem witness_ModifyFrames :
    ∀ f ∈ modifyForms 0x00 0xFFFF, ∃ t, exec f.1 flat = .next t := by
  have h : (modifyForms 0x00 0xFFFF).all (fun f => (nextOf (exec f.1 flat)).isSome) = true := by decide +kernel
  exact fun f hf => next_of_isSome (List.all_eq_true.mp h f hf)

theorem witness_StackWriteFrames :
    (∃ t, exec .pha flat = .next t) ∧ (∃ t, exec .php flat = .next t) ∧ (∃ t, exec (.jsr 0x0000) flat = .next t) ∧
    ∃ t, exec .brk flat = .next t :=
  ⟨next_of_isSome (by decide +kernel), next_of_isSome (by decide +kernel), next_of_isSome (by decide +kernel),
    next_of_isSome (by decide +kernel)⟩

/-- A, X, Y and S each differ after some instruction. -/
theorem witness_RegisterWriters :
    (∃ t, exec .txa flat = .next t ∧ t.a ≠ flat.a) ∧ (∃ t, exec .inx flat = .next t ∧ t.x ≠ flat.x) ∧
    (∃ t, exec .dey flat = .next t ∧ t.y ≠ flat.y) ∧ ∃ t, exec .txs flat = .next t ∧ t.sp ≠ flat.sp :=
  ⟨⟨_, rfl, by decide⟩, ⟨_, rfl, by decide⟩, ⟨_, rfl, by decide⟩, _, rfl, by decide⟩

/-- Each flag differs after some instruction. -/
theorem witness_FlagWriters :
    (∃ t, exec .txa flat = .next t ∧ t.p.n ≠ flat.p.n) ∧ (∃ t, exec .sec flat = .next t ∧ t.p.c ≠ flat.p.c) ∧
    (∃ t, exec (.adcImm 0x80) { flat with a := 0x80 } = .next t ∧ t.p.v ≠ flat.p.v) ∧
    (∃ t, exec .sei flat = .next t ∧ t.p.i ≠ flat.p.i) ∧ ∃ t, exec .sed flat = .next t ∧ t.p.d ≠ flat.p.d :=
  ⟨⟨_, rfl, by decide⟩, ⟨_, rfl, by decide⟩, ⟨_, rfl, by decide⟩, ⟨_, rfl, by decide⟩, _, rfl, by decide⟩

/-- A form of three bytes at $FFFE. -/
theorem witness_PcAdvancesByLength :
    (∃ t, exec (.ldaAbsX 0xFFFF) flat = .next t) ∧
    (Instr.ldaAbsX 0xFFFF).mnemonic ∉
      [Mnemonic.jmp, .jsr, .rts, .rti, .brk, .bcc, .bcs, .beq, .bne, .bmi, .bpl, .bvc, .bvs] :=
  ⟨next_of_isSome (by decide +kernel), by decide⟩

/-- CLI, and a read that takes a free value. -/
theorem witness_InstructionsLeaveInterruptStateAlone :
    (∃ t, exec .cli { flat with p := { noFlags with i := true } } = .next t) ∧
    ∃ t, exec (.ldaAbs 0xC000) (mapped 0 []) = .next t :=
  ⟨⟨_, rfl⟩, next_of_isSome (by decide +kernel)⟩

end Sys2Proof.Tests
end

/-! # What no instruction and no step can destroy

An instruction changes the state in three ways only: it writes registers and flags, it stores a byte, and it takes a
free value. A property of states that these three writes keep is kept by every instruction; one that the boundary's own
bookkeeping keeps as well is kept by every step. Both facts are proved once, for any such property. -/

namespace Sys2Proof.Machine

/-- A property of states that survives each write an instruction is made of. -/
structure InstrClosed (P : State → Prop) : Prop where
  regs : ∀ {s : State}, P s → ∀ (a x y sp : Byte) (pc : Word) (p : Flags),
    P { s with a := a, x := x, y := y, sp := sp, pc := pc, p := p }
  draw : ∀ {s : State}, P s → P { s with draws := s.draws + 1 }
  poke : ∀ {s : State}, P s → ∀ (a : Word) (v : Byte), P { s with mem := s.poke a v }

/-- A property of states that also survives what a boundary and an event write. -/
structure StepClosed (P : State → Prop) : Prop extends InstrClosed P where
  control : ∀ {s : State}, P s → ∀ (nmi poll : Bool) (now : Lines) (later : List Lines) (n : Nat),
    P { s with nmiPending := nmi, iPoll := poll, lines := now, inputs := later, draws := n }

/-- Whatever next state is answered has the property. -/
def Keeps (P : State → Prop) (r : Result) : Prop := ∀ t, r = .next t → P t

theorem keeps_next {P : State → Prop} {t : State} (h : P t) : Keeps P (.next t) := by
  rintro _ ⟨⟩
  exact h

theorem keeps_refused (P : State → Prop) (e : Refusal) : Keeps P (.refused e) := by
  rintro _ ⟨⟩

namespace InstrClosed

variable {P : State → Prop} {s : State}

/-! The shared operations, each with what follows it. -/

theorem keeps_readByte {a : Word} {k : Byte → State → Result} (hP : InstrClosed P) (hs : P s)
    (hk : ∀ v t, P t → Keeps P (k v t)) : Keeps P (readByte a s k) := by
  cases ha : s.kindAt a with
  | ram => rw [readByte_plain (.inl ha)]; exact hk _ _ hs
  | rom => rw [readByte_plain (.inr ha)]; exact hk _ _ hs
  | absent => rw [readByte_absent ha]; exact hk _ _ (hP.draw hs)
  | device => rw [readByte_device ha]; exact keeps_refused P _

theorem keeps_writeByte {a : Word} {v : Byte} {k : State → Result} (hP : InstrClosed P) (hs : P s)
    (hk : ∀ t, P t → Keeps P (k t)) : Keeps P (writeByte a v s k) := by
  intro t h
  obtain ⟨-, h⟩ := writeByte_next h
  exact hk _ (hP.poke hs a v) t h

theorem keeps_readPair {la ha : Word} {k : Word → State → Result} (hP : InstrClosed P) (hs : P s)
    (hk : ∀ w t, P t → Keeps P (k w t)) : Keeps P (readPair la ha s k) :=
  hP.keeps_readByte hs fun _ _ h1 => hP.keeps_readByte h1 fun _ _ h2 => hk _ _ h2

theorem keeps_withIndX {d : Byte} {k : Word → State → Result} (hP : InstrClosed P) (hs : P s)
    (hk : ∀ w t, P t → Keeps P (k w t)) : Keeps P (withIndX d s k) := hP.keeps_readPair hs hk

/-- An operand byte read through (Ind,X). -/
theorem keeps_readIndX {d : Byte} {f : Byte → State → Result} (hP : InstrClosed P) (hs : P s)
    (hf : ∀ v t, P t → Keeps P (f v t)) : Keeps P (withIndX d s fun ea s1 => readByte ea s1 f) :=
  hP.keeps_withIndX hs fun _ _ h => hP.keeps_readByte h hf

theorem keeps_withIndY {d : Byte} {k : Word → State → Result} (hP : InstrClosed P) (hs : P s)
    (hk : ∀ w t, P t → Keeps P (k w t)) : Keeps P (withIndY d s k) := by
  unfold withIndY read16zp
  exact hP.keeps_readPair hs fun _ _ h => hk _ _ h

/-- An operand byte read through (Ind),Y. -/
theorem keeps_readIndY {d : Byte} {f : Byte → State → Result} (hP : InstrClosed P) (hs : P s)
    (hf : ∀ v t, P t → Keeps P (f v t)) : Keeps P (withIndY d s fun ea s1 => readByte ea s1 f) :=
  hP.keeps_withIndY hs fun _ _ h => hP.keeps_readByte h hf

theorem keeps_push {v : Byte} {k : State → Result} (hP : InstrClosed P) (hs : P s)
    (hk : ∀ t, P t → Keeps P (k t)) : Keeps P (push v s k) :=
  hP.keeps_writeByte hs fun _ h => hk _ (hP.regs h ..)

theorem keeps_pull {k : Byte → State → Result} (hP : InstrClosed P) (hs : P s)
    (hk : ∀ v t, P t → Keeps P (k v t)) : Keeps P (pull s k) :=
  hP.keeps_readByte (hP.regs hs ..) hk

theorem keeps_pushWord {w : Word} {k : State → Result} (hP : InstrClosed P) (hs : P s)
    (hk : ∀ t, P t → Keeps P (k t)) : Keeps P (pushWord w s k) :=
  hP.keeps_push hs fun _ h => hP.keeps_push h hk

theorem keeps_pullWord {k : Word → State → Result} (hP : InstrClosed P) (hs : P s)
    (hk : ∀ w t, P t → Keeps P (k w t)) : Keeps P (pullWord s k) :=
  hP.keeps_pull hs fun _ _ h1 => hP.keeps_pull h1 fun _ _ h2 => hk _ _ h2

theorem keeps_enterTrap {ret vec : Word} {b : Bool} {k : State → Result} (hP : InstrClosed P) (hs : P s)
    (hk : ∀ t, P t → Keeps P (k t)) : Keeps P (enterTrap ret b vec s k) :=
  hP.keeps_pushWord hs fun _ h1 => hP.keeps_push h1 fun _ h2 =>
    hP.keeps_readPair (hP.regs h2 ..) fun _ _ h3 => hk _ (hP.regs h3 ..)

theorem keeps_returnFromTrap {k : State → Result} (hP : InstrClosed P) (hs : P s)
    (hk : ∀ t, P t → Keeps P (k t)) : Keeps P (returnFromTrap s k) :=
  hP.keeps_pull hs fun _ _ h1 => hP.keeps_pullWord (hP.regs h1 ..) fun _ _ h2 => hk _ (hP.regs h2 ..)

/-! The shapes of instruction. A meaning that only computes registers and flags needs none of these: there
the property is kept by `regs`. -/

theorem keeps_finishArith {q : Option (Byte × Flags)} {len : Word} (hP : InstrClosed P) (hs : P s) :
    Keeps P (finishArith q len s) := by
  cases q with
  | none => exact keeps_refused P _
  | some q => exact keeps_next (hP.regs hs ..)

theorem keeps_branchIf {c : Bool} {d : Int} (hP : InstrClosed P) (hs : P s) : Keeps P (branchIf c d s) := by
  rw [branchIf_eq]
  exact keeps_next (hP.regs hs ..)

theorem keeps_storeReg {r : Reg} {len ea : Word} (hP : InstrClosed P) (hs : P s) :
    Keeps P (storeReg r len ea s) :=
  hP.keeps_writeByte hs fun _ h => keeps_next (hP.regs h ..)

theorem keeps_shiftMem {op : Byte → Bool → Byte × Bool} {len ea : Word} (hP : InstrClosed P) (hs : P s) :
    Keeps P (shiftMem op len ea s) :=
  hP.keeps_readByte hs fun _ _ h1 => hP.keeps_writeByte h1 fun _ h2 => keeps_next (hP.regs h2 ..)

theorem keeps_countMem {delta : Byte} {len ea : Word} (hP : InstrClosed P) (hs : P s) :
    Keeps P (countMem delta len ea s) :=
  hP.keeps_readByte hs fun _ _ h1 => hP.keeps_writeByte h1 fun _ h2 => keeps_next (hP.regs h2 ..)

theorem keeps_execPla (hP : InstrClosed P) (hs : P s) : Keeps P (execPla s) := by
  unfold execPla
  exact hP.keeps_pull hs fun _ _ h => keeps_next (hP.regs h ..)

theorem keeps_execPlp (hP : InstrClosed P) (hs : P s) : Keeps P (execPlp s) := by
  unfold execPlp
  exact hP.keeps_pull hs fun _ _ h => keeps_next (hP.regs h ..)

theorem keeps_execRts (hP : InstrClosed P) (hs : P s) : Keeps P (execRts s) := by
  unfold execRts
  exact hP.keeps_pullWord hs fun _ _ h => keeps_next (hP.regs h ..)

theorem keeps_execJmpInd {addr : Word} (hP : InstrClosed P) (hs : P s) : Keeps P (execJmpInd addr s) := by
  unfold execJmpInd withIndirect
  exact hP.keeps_readPair hs fun _ _ h => keeps_next (hP.regs h ..)

theorem keeps_execJsr {addr : Word} (hP : InstrClosed P) (hs : P s) : Keeps P (execJsr addr s) := by
  unfold execJsr
  split
  · exact keeps_refused P _
  · exact hP.keeps_pushWord hs fun _ h => keeps_next (hP.regs h ..)

/-- What every instruction keeps: the property survives the meaning of each of the 151 rows, by the shape of the row. -/
theorem keeps_exec (hP : InstrClosed P) (hs : P s) (i : Instr) : Keeps P (exec i s) := by
  cases i with
  | tax | tay | txa | tya | tsx | txs | jmpAbs | nop | inx | iny | dex | dey | clc | sec | cld | sed | cli | sei
  | clv | aslA | lsrA | rolA | rorA | ldaImm | ldxImm | ldyImm | andImm | oraImm | eorImm | cmpImm | cpxImm
  | cpyImm =>
    exact keeps_next (hP.regs hs ..)
  | ldaZp | ldaZpX | ldaAbs | ldaAbsX | ldaAbsY | ldxZp | ldxZpY | ldxAbs | ldxAbsY | ldyZp | ldyZpX | ldyAbs
  | ldyAbsX | andZp | andZpX | andAbs | andAbsX | andAbsY | oraZp | oraZpX | oraAbs | oraAbsX | oraAbsY | eorZp
  | eorZpX | eorAbs | eorAbsX | eorAbsY | cmpZp | cmpZpX | cmpAbs | cmpAbsX | cmpAbsY | cpxZp | cpxAbs | cpyZp
  | cpyAbs | bitZp | bitAbs =>
    exact hP.keeps_readByte hs fun _ _ h => keeps_next (hP.regs h ..)
  | ldaIndX | andIndX | oraIndX | eorIndX | cmpIndX =>
    exact hP.keeps_readIndX hs fun _ _ h => keeps_next (hP.regs h ..)
  | ldaIndY | andIndY | oraIndY | eorIndY | cmpIndY =>
    exact hP.keeps_readIndY hs fun _ _ h => keeps_next (hP.regs h ..)
  | adcImm | sbcImm =>
    exact hP.keeps_finishArith hs
  | adcZp | adcZpX | adcAbs | adcAbsX | adcAbsY | sbcZp | sbcZpX | sbcAbs | sbcAbsX | sbcAbsY =>
    exact hP.keeps_readByte hs fun _ _ h => hP.keeps_finishArith h
  | adcIndX | sbcIndX =>
    exact hP.keeps_readIndX hs fun _ _ h => hP.keeps_finishArith h
  | adcIndY | sbcIndY =>
    exact hP.keeps_readIndY hs fun _ _ h => hP.keeps_finishArith h
  | staZp | staZpX | staAbs | staAbsX | staAbsY | stxZp | stxZpY | stxAbs | styZp | styZpX | styAbs =>
    exact hP.keeps_storeReg hs
  | staIndX => exact hP.keeps_withIndX hs fun _ _ h => hP.keeps_storeReg h
  | staIndY => exact hP.keeps_withIndY hs fun _ _ h => hP.keeps_storeReg h
  | aslZp | aslZpX | aslAbs | aslAbsX | lsrZp | lsrZpX | lsrAbs | lsrAbsX | rolZp | rolZpX | rolAbs | rolAbsX
  | rorZp | rorZpX | rorAbs | rorAbsX =>
    exact hP.keeps_shiftMem hs
  | incZp | incZpX | incAbs | incAbsX | decZp | decZpX | decAbs | decAbsX =>
    exact hP.keeps_countMem hs
  | pha | php =>
    exact hP.keeps_push hs fun _ h => keeps_next (hP.regs h ..)
  | pla => exact hP.keeps_execPla hs
  | plp => exact hP.keeps_execPlp hs
  | jmpInd => exact hP.keeps_execJmpInd hs
  | jsr => exact hP.keeps_execJsr hs
  | rts => exact hP.keeps_execRts hs
  | brk => exact hP.keeps_enterTrap hs fun _ => keeps_next
  | rti => exact hP.keeps_returnFromTrap hs fun _ => keeps_next
  | bcc | bcs | beq | bne | bmi | bpl | bvc | bvs =>
    exact hP.keeps_branchIf hs

end InstrClosed

namespace StepClosed

variable {P : State → Prop} {s : State}

theorem settleMask (hP : StepClosed P) (hs : P s) : P s.settleMask := hP.control hs ..

theorem unspecifiedByReset (hP : StepClosed P) (hs : P s) : P s.unspecifiedByReset := by
  unfold State.unspecifiedByReset
  split
  · exact hP.regs hs ..
  · exact hP.regs (hP.control hs s.nmiPending s.iPoll s.lines s.inputs (s.draws + 9)) ..

theorem keeps_takeReset (hP : StepClosed P) (hs : P s) : Keeps P (takeReset s) := by
  unfold takeReset enterReset read16
  exact hP.keeps_readPair (hP.regs (hP.control (hP.unspecifiedByReset hs) false ..) ..) fun _ _ h =>
    keeps_next (hP.settleMask (hP.regs h ..))

theorem keeps_takeNmi (hP : StepClosed P) (hs : P s) : Keeps P (takeNmi s) :=
  hP.keeps_enterTrap (hP.control hs ..) fun _ h => keeps_next (hP.settleMask h)

theorem keeps_takeIrq (hP : StepClosed P) (hs : P s) : Keeps P (takeIrq s) :=
  hP.keeps_enterTrap hs fun _ h => keeps_next (hP.settleMask h)

/-- What every step keeps, events included. -/
theorem keeps_step (hP : StepClosed P) (hs : P s) : Keeps P (step s) := by
  have hsample : P (sampleLines s) := hP.control hs ..
  intro t h
  obtain ⟨-, hr⟩ | ⟨-, hn⟩ | ⟨-, hi⟩ | ⟨-, i, n, u, hu, rfl⟩ := step_next h
  · exact hP.keeps_takeReset hsample t hr
  · exact hP.keeps_takeNmi hsample t hn
  · exact hP.keeps_takeIrq hsample t hi
  · exact hP.control (hP.keeps_exec (hP.control hsample ..) i u hu) ..

end StepClosed

/-- The parameters stay what they were before the run: none of the machine's writes is to them. -/
theorem stepClosed_params_eq (q : Params) : StepClosed fun t => t.params = q where
  regs h _ _ _ _ _ _ := h
  draw h := h
  poke h _ _ := h
  control h _ _ _ _ _ := h

/-- Settles O7, by what every step keeps. -/
theorem parametersNeverChange : Obligations.ParametersNeverChange := by
  unfold Obligations.ParametersNeverChange
  intro s t h
  exact (stepClosed_params_eq s.params).keeps_step rfl t h

end Sys2Proof.Machine

/-! # From the bytes at `pc` to the meaning that runs -/

namespace Sys2Proof

/-- The bytes a decoded instruction was read from, by the three formats of `30_encoding.md` R51. -/
theorem decode_ok {bs rest : List Byte} {i : Instr} (h : decode bs = .ok (i, rest)) :
    (∃ op, opcodeForm op = some (.one i) ∧ bs = op :: rest) ∨
    (∃ op d mk, opcodeForm op = some (.two mk) ∧ i = mk d ∧ bs = op :: d :: rest) ∨
    (∃ op lo hi mk, opcodeForm op = some (.three mk) ∧ i = mk (Machine.wordOf hi lo) ∧
      bs = op :: lo :: hi :: rest) := by
  cases bs with
  | nil => simp [decode] at h
  | cons op bs =>
    unfold decode at h
    cases hf : opcodeForm op with
    | none => simp [hf] at h
    | some form =>
      cases form with
      | one j =>
        simp only [hf, Except.ok.injEq, Prod.mk.injEq] at h
        obtain ⟨rfl, rfl⟩ := h
        exact .inl ⟨op, hf, rfl⟩
      | two mk =>
        match bs with
        | [] => simp [hf] at h
        | d :: bs =>
          simp only [hf, Except.ok.injEq, Prod.mk.injEq] at h
          obtain ⟨rfl, rfl⟩ := h
          exact .inr (.inl ⟨op, d, mk, hf, rfl, rfl⟩)
      | three mk =>
        match bs with
        | [] | [_] => simp [hf] at h
        | lo :: hi :: bs =>
          simp only [hf, Except.ok.injEq, Prod.mk.injEq] at h
          obtain ⟨rfl, rfl⟩ := h
          exact .inr (.inr ⟨op, lo, hi, mk, hf, rfl, rfl⟩)

end Sys2Proof

namespace Sys2Proof.Machine

open Sys2Proof.Claims

/-! The fetch where storage answers, a format each. -/

section
variable {α : Type} {s : State} (k : Instr → State → Answer α)

theorem fetchInstr_one {i : Instr} (h0 : s.Plain s.pc) (hf : opcodeForm (s.peek s.pc) = some (.one i)) :
    fetchInstr s k = k i s := by
  unfold fetchInstr
  rw [readByte_plain h0]
  simp only [hf]

theorem fetchInstr_two {mk : Byte → Instr} (h0 : s.Plain s.pc) (h1 : s.Plain (s.pc + 1))
    (hf : opcodeForm (s.peek s.pc) = some (.two mk)) :
    fetchInstr s k = k (mk (s.peek (s.pc + 1))) s := by
  unfold fetchInstr
  rw [readByte_plain h0]
  simp only [hf]
  rw [readByte_plain h1]

theorem fetchInstr_three {mk : Word → Instr} (h0 : s.Plain s.pc) (h1 : s.Plain (s.pc + 1)) (h2 : s.Plain (s.pc + 2))
    (hf : opcodeForm (s.peek s.pc) = some (.three mk)) :
    fetchInstr s k = k (mk (wordOf (s.peek (s.pc + 2)) (s.peek (s.pc + 1)))) s := by
  unfold fetchInstr
  rw [readByte_plain h0]
  simp only [hf]
  rw [readByte_plain h1, readByte_plain h2]

end

/-- The `n` bytes that storage holds from `pc` on, at addresses modulo 65536 (`10_state.md` R26). -/
def State.codeBytes (s : State) (n : Nat) : List Byte := (List.range n).map fun k => s.peek (s.pc + BitVec.ofNat 16 k)

@[simp] theorem State.length_codeBytes (s : State) (n : Nat) : (s.codeBytes n).length = n := by simp [State.codeBytes]

@[simp] theorem State.codeBytes_one (s : State) : s.codeBytes 1 = [s.peek s.pc] := by
  simp [State.codeBytes, List.range_succ]

@[simp] theorem State.codeBytes_two (s : State) : s.codeBytes 2 = [s.peek s.pc, s.peek (s.pc + 1)] := by
  simp [State.codeBytes, List.range_succ]

@[simp] theorem State.codeBytes_three (s : State) :
    s.codeBytes 3 = [s.peek s.pc, s.peek (s.pc + 1), s.peek (s.pc + 2)] := by
  simp [State.codeBytes, List.range_succ]

theorem State.eq_length_of_codeBytes {s : State} {n : Nat} {bs : List Byte} (h : s.codeBytes n = bs) :
    n = bs.length := by
  rw [← h, State.length_codeBytes]

/-- Where storage answers, the fetch and the decoder agree. -/
theorem fetchInstr_of_decodes {α : Type} {s : State} {i : Instr} {n : Nat}
    (hplain : ∀ j, j < n → s.Plain (s.pc + BitVec.ofNat 16 j)) (hdec : Decodes (s.codeBytes n) i)
    (k : Instr → State → Answer α) : fetchInstr s k = k i s := by
  obtain ⟨op, hf, hb⟩ | ⟨op, d, mk, hf, rfl, hb⟩ | ⟨op, lo, hi, mk, hf, rfl, hb⟩ := decode_ok hdec
  · obtain rfl : n = 1 := State.eq_length_of_codeBytes hb
    obtain rfl : s.peek s.pc = op := by simpa using hb
    have h0 : s.Plain s.pc := by simpa using hplain 0
    exact fetchInstr_one k h0 hf
  · obtain rfl : n = 2 := State.eq_length_of_codeBytes hb
    obtain ⟨rfl, rfl⟩ : s.peek s.pc = op ∧ s.peek (s.pc + 1) = d := by simpa using hb
    have h0 : s.Plain s.pc := by simpa using hplain 0
    exact fetchInstr_two k h0 (hplain 1 (by decide)) hf
  · obtain rfl : n = 3 := State.eq_length_of_codeBytes hb
    obtain ⟨rfl, rfl, rfl⟩ : s.peek s.pc = op ∧ s.peek (s.pc + 1) = lo ∧ s.peek (s.pc + 2) = hi := by simpa using hb
    have h0 : s.Plain s.pc := by simpa using hplain 0
    exact fetchInstr_three k h0 (hplain 1 (by decide)) (hplain 2 (by decide)) hf

/-- No event is taken exactly when the sample asserts no RESET, no NMI is latched or seen, and IRQ is masked or not
asserted (`60_exceptions.md` R166). -/
theorem pendingEvent_quiet_iff {t : State} :
    pendingEvent t = .quiet ↔ t.lines.reset = false ∧ t.nmiPending = false ∧ (t.lines.irq && !t.iPoll) = false := by
  unfold pendingEvent
  split
  · simp_all
  · split
    · simp_all
    · split <;> simp_all

/-- At a quiet boundary the sample leaves no NMI latched. -/
theorem sampleLines_of_quiet {s : State} (h : s.Quiet) :
    sampleLines s =
      { s with inputs := s.inputs.tail, lines := s.inputs.headD Lines.released, nmiPending := false } := by
  obtain ⟨-, hnmi, -⟩ := pendingEvent_quiet_iff.mp h
  rw [← hnmi]
  rfl

/-- A quiet step fetches and executes. -/
theorem step_of_quiet {s : State} (h : s.Quiet) :
    step s = fetchInstr (sampleLines s) fun i u => finishInstr i u (exec i u) := by
  unfold step
  simp only [show pendingEvent (sampleLines s) = .quiet from h]

theorem delaysMask_iff (m : Mnemonic) : delaysMask m = true ↔ m ∈ [Mnemonic.cli, .sei, .plp] := by
  cases m <;> decide

theorem nextPoll_eq (i : Instr) (before after : Bool) :
    nextPoll i before after = if i.mnemonic ∈ [Mnemonic.cli, .sei, .plp] then before else after := by
  simp only [nextPoll, delaysMask_iff]

/-- Settles O8: the quiet step is the fetch of the sampled state, and that fetch is the decoder on the bytes at `pc`. -/
theorem stepRunsDecodedInstruction : Obligations.StepRunsDecodedInstruction := by
  unfold Obligations.StepRunsDecodedInstruction
  intro s i n hq _ hplain hdec
  have hfetch : step s = finishInstr i (sampleLines s) (exec i (sampleLines s)) := by
    rw [step_of_quiet hq]
    exact fetchInstr_of_decodes (s := sampleLines s) hplain hdec _
  rw [hfetch, sampleLines_of_quiet hq]
  cases exec i { s with inputs := s.inputs.tail, lines := s.inputs.headD Lines.released, nmiPending := false } with
  | next t => simp only [finishInstr, nextPoll_eq]
  | fault f => rfl
  | refused e => rfl

end Sys2Proof.Machine

/-! # What an instruction may change

The summary of flag writes (`10_state.md` R18) and the access table (R22) are one function here, the footprint of a
mnemonic in a mode. The meaning of each row writes nothing outside its footprint: that is proved once, by the shape of
the row, and the statements about writers, about memory and about `pc` are read off the table. -/

namespace Sys2Proof.Machine

/-- The parts of the machine that an instruction may change. -/
structure Footprint where
  a : Bool := false
  x : Bool := false
  y : Bool := false
  sp : Bool := false
  /-- `N` and `Z`, which no instruction writes apart -/
  nz : Bool := false
  c : Bool := false
  v : Bool := false
  i : Bool := false
  d : Bool := false
  mem : Bool := false
  /-- `pc` may be another address than that of the byte after the instruction -/
  jump : Bool := false

/-- The tables R18 and R22 of `10_state.md`. The mode matters for the shifts alone. -/
def footprint (mode : Mode) : Mnemonic → Footprint
  | .nop => {}
  | .lda | .txa | .tya | .and | .ora | .eor => { a := true, nz := true }
  | .ldx | .tax | .tsx | .inx | .dex => { x := true, nz := true }
  | .ldy | .tay | .iny | .dey => { y := true, nz := true }
  | .adc | .sbc => { a := true, nz := true, c := true, v := true }
  | .cmp | .cpx | .cpy => { nz := true, c := true }
  | .bit => { nz := true, v := true }
  | .asl | .lsr | .rol | .ror =>
    { a := decide (mode = .accumulator), mem := decide (mode ≠ .accumulator), nz := true, c := true }
  | .inc | .dec => { mem := true, nz := true }
  | .sta | .stx | .sty => { mem := true }
  | .clc | .sec => { c := true }
  | .cld | .sed => { d := true }
  | .cli | .sei => { i := true }
  | .clv => { v := true }
  | .txs => { sp := true }
  | .pha | .php => { mem := true, sp := true }
  | .pla => { a := true, sp := true, nz := true }
  | .plp => { sp := true, nz := true, c := true, v := true, i := true, d := true }
  | .jmp | .bcc | .bcs | .beq | .bne | .bmi | .bpl | .bvc | .bvs => { jump := true }
  | .jsr => { mem := true, sp := true, jump := true }
  | .rts => { sp := true, jump := true }
  | .rti => { sp := true, jump := true, nz := true, c := true, v := true, i := true, d := true }
  | .brk => { mem := true, sp := true, jump := true, i := true }

/-- `t` differs from `s` within the footprint, in `pc`, which moves on by `len` unless the footprint jumps, and in the
count of free values. -/
def WritesOnly (f : Footprint) (len : Word) (s t : State) : Prop :=
  t = { s with
    a := bif f.a then t.a else s.a
    x := bif f.x then t.x else s.x
    y := bif f.y then t.y else s.y
    sp := bif f.sp then t.sp else s.sp
    pc := bif f.jump then t.pc else s.pc + len
    p := {
      c := bif f.c then t.p.c else s.p.c
      z := bif f.nz then t.p.z else s.p.z
      i := bif f.i then t.p.i else s.p.i
      d := bif f.d then t.p.d else s.p.d
      v := bif f.v then t.p.v else s.p.v
      n := bif f.nz then t.p.n else s.p.n }
    mem := bif f.mem then t.mem else s.mem
    draws := t.draws }

namespace WritesOnly

variable {f : Footprint} {len : Word} {s t : State}

/-! What is outside the footprint is as before, a part each. -/

theorem a_eq (h : WritesOnly f len s t) (hf : f.a = false) : t.a = s.a := by simpa [hf] using congrArg State.a h
theorem x_eq (h : WritesOnly f len s t) (hf : f.x = false) : t.x = s.x := by simpa [hf] using congrArg State.x h
theorem y_eq (h : WritesOnly f len s t) (hf : f.y = false) : t.y = s.y := by simpa [hf] using congrArg State.y h
theorem sp_eq (h : WritesOnly f len s t) (hf : f.sp = false) : t.sp = s.sp := by simpa [hf] using congrArg State.sp h
theorem n_eq (h : WritesOnly f len s t) (hf : f.nz = false) : t.p.n = s.p.n := by
  simpa [hf] using congrArg (·.p.n) h
theorem z_eq (h : WritesOnly f len s t) (hf : f.nz = false) : t.p.z = s.p.z := by
  simpa [hf] using congrArg (·.p.z) h
theorem c_eq (h : WritesOnly f len s t) (hf : f.c = false) : t.p.c = s.p.c := by simpa [hf] using congrArg (·.p.c) h
theorem v_eq (h : WritesOnly f len s t) (hf : f.v = false) : t.p.v = s.p.v := by simpa [hf] using congrArg (·.p.v) h
theorem i_eq (h : WritesOnly f len s t) (hf : f.i = false) : t.p.i = s.p.i := by simpa [hf] using congrArg (·.p.i) h
theorem d_eq (h : WritesOnly f len s t) (hf : f.d = false) : t.p.d = s.p.d := by simpa [hf] using congrArg (·.p.d) h
theorem mem_eq (h : WritesOnly f len s t) (hf : f.mem = false) : t.mem = s.mem := by
  simpa [hf] using congrArg State.mem h
theorem pc_eq (h : WritesOnly f len s t) (hf : f.jump = false) : t.pc = s.pc + len := by
  simpa [hf] using congrArg State.pc h

end WritesOnly

/-! What follows an access runs on the state before it, changed in what the access writes and in `draws`: the
inversions of `Laws/Ops`, for a property of the next state that need not hold before. -/

section
variable {P : State → Prop} {s : State}

theorem keeps_of_readByte {a : Word} {k : Byte → State → Result}
    (h : ∀ v n, Keeps P (k v { s with draws := n })) : Keeps P (readByte a s k) := fun t ht => by
  obtain ⟨v, n, -, -, hk⟩ := readByte_next ht
  exact h v n t hk

theorem keeps_of_withIndX {d : Byte} {k : Word → State → Result}
    (h : ∀ w n, Keeps P (k w { s with draws := n })) : Keeps P (withIndX d s k) := fun t ht => by
  obtain ⟨w, n, -, hk⟩ := withIndX_next ht
  exact h w n t hk

theorem keeps_of_withIndY {d : Byte} {k : Word → State → Result}
    (h : ∀ w n, Keeps P (k w { s with draws := n })) : Keeps P (withIndY d s k) := fun t ht => by
  obtain ⟨w, n, -, hk⟩ := withIndY_next ht
  exact h w n t hk

/-- An operand byte read through (Ind,X). -/
theorem keeps_of_readIndX {d : Byte} {f : Byte → State → Result}
    (h : ∀ v n, Keeps P (f v { s with draws := n })) : Keeps P (withIndX d s fun ea s1 => readByte ea s1 f) :=
  keeps_of_withIndX fun _ _ => keeps_of_readByte h

/-- An operand byte read through (Ind),Y. -/
theorem keeps_of_readIndY {d : Byte} {f : Byte → State → Result}
    (h : ∀ v n, Keeps P (f v { s with draws := n })) : Keeps P (withIndY d s fun ea s1 => readByte ea s1 f) :=
  keeps_of_withIndY fun _ _ => keeps_of_readByte h

end

/-! The shapes of instruction that have an inversion, and the meanings that work on the stack or move `pc`. -/

section
variable {s : State}

theorem writesOnly_storeReg {r : Reg} {len ea : Word} :
    Keeps (WritesOnly { mem := true } len s) (storeReg r len ea s) := fun t ht => by
  obtain ⟨-, rfl⟩ := storeReg_next ht
  rfl

theorem writesOnly_shiftMem {op : Byte → Bool → Byte × Bool} {len ea : Word} :
    Keeps (WritesOnly { mem := true, nz := true, c := true } len s) (shiftMem op len ea s) := fun t ht => by
  obtain ⟨m, n, -, -, rfl⟩ := shiftMem_next ht
  rfl

theorem writesOnly_countMem {delta : Byte} {len ea : Word} :
    Keeps (WritesOnly { mem := true, nz := true } len s) (countMem delta len ea s) := fun t ht => by
  obtain ⟨m, n, -, -, rfl⟩ := countMem_next ht
  rfl

theorem writesOnly_branchIf {b : Bool} {d : Int} {len : Word} :
    Keeps (WritesOnly { jump := true } len s) (branchIf b d s) := fun t ht => by
  obtain rfl := branchIf_next ht
  rfl

/-- ADC computes no flags but N, Z, C and V, in every mode of D. -/
theorem adcResult_flags {mode : DecimalMode} {a m r : Byte} {p q : Flags} (h : adcResult mode a m p = some (r, q)) :
    ∃ n z c v, q = { p with n := n, z := z, c := c, v := v } := by
  unfold adcResult at h
  split at h
  · cases mode with
    | refuse => cases h
    | nmosBcd | binary => cases h; exact ⟨_, _, _, _, rfl⟩
  · cases h
    exact ⟨_, _, _, _, rfl⟩

/-- SBC computes no flags but N, Z, C and V, in every mode of D. -/
theorem sbcResult_flags {mode : DecimalMode} {a m r : Byte} {p q : Flags} (h : sbcResult mode a m p = some (r, q)) :
    ∃ n z c v, q = { p with n := n, z := z, c := c, v := v } := by
  unfold sbcResult at h
  split at h
  · cases mode with
    | refuse => cases h
    | nmosBcd | binary => cases h; exact ⟨_, _, _, _, rfl⟩
  · cases h
    exact ⟨_, _, _, _, rfl⟩

theorem writesOnly_finishArith {q : Option (Byte × Flags)} {len : Word} {k : Nat}
    (hq : ∀ {r p}, q = some (r, p) → ∃ n z c v, p = { s.p with n := n, z := z, c := c, v := v }) :
    Keeps (WritesOnly { a := true, nz := true, c := true, v := true } len s)
      (finishArith q len { s with draws := k }) := fun t ht => by
  obtain ⟨r, p, hr, rfl⟩ := finishArith_next ht
  obtain ⟨n, z, c, v, rfl⟩ := hq hr
  rfl

/-- PHA and PHP. -/
theorem writesOnly_push {v : Byte} {len : Word} :
    Keeps (WritesOnly { mem := true, sp := true } len s) (push v s fun s1 => .next (s1.advance len)) := fun t ht => by
  obtain ⟨-, ht⟩ := push_next ht
  cases ht
  rfl

theorem writesOnly_execPla : Keeps (WritesOnly { a := true, sp := true, nz := true } 1 s) (execPla s) := fun t ht => by
  obtain ⟨v, n, -, -, ht⟩ := pull_next ht
  cases ht
  rfl

theorem writesOnly_execPlp :
    Keeps (WritesOnly { sp := true, nz := true, c := true, v := true, i := true, d := true } 1 s) (execPlp s) :=
  fun t ht => by
    obtain ⟨v, n, -, -, ht⟩ := pull_next ht
    cases ht
    rfl

theorem writesOnly_execJmpInd {addr len : Word} :
    Keeps (WritesOnly { jump := true } len s) (execJmpInd addr s) := fun t ht => by
  obtain ⟨w, n, -, -, -, ht⟩ := withIndirect_next ht
  cases ht
  rfl

theorem writesOnly_execJsr {addr len : Word} :
    Keeps (WritesOnly { mem := true, sp := true, jump := true } len s) (execJsr addr s) := fun t ht => by
  unfold execJsr at ht
  split at ht
  · cases ht
  · obtain ⟨-, -, ht⟩ := pushWord_next ht
    cases ht
    rfl

theorem writesOnly_execRts {len : Word} :
    Keeps (WritesOnly { sp := true, jump := true } len s) (execRts s) := fun t ht => by
  obtain ⟨w, n, -, -, -, ht⟩ := pullWord_next ht
  cases ht
  rfl

theorem writesOnly_execBrk {len : Word} :
    Keeps (WritesOnly { mem := true, sp := true, jump := true, i := true } len s) (execBrk s) := fun t ht => by
  obtain ⟨w, n, -, -, -, -, -, -, ht⟩ := enterTrap_next ht
  cases ht
  rfl

theorem writesOnly_execRti {len : Word} :
    Keeps (WritesOnly { sp := true, jump := true, nz := true, c := true, v := true, i := true, d := true } len s)
      (execRti s) := fun t ht => by
  obtain ⟨b, w, n, -, -, -, -, ht⟩ := returnFromTrap_next ht
  cases ht
  rfl

end

/-- No instruction writes outside its footprint, and `pc` moves on by the length of its mode unless it jumps. -/
theorem writesOnly_exec (i : Instr) (s : State) :
    Keeps (WritesOnly (footprint i.mode i.mnemonic) (BitVec.ofNat 16 i.mode.length) s) (exec i s) := by
  cases i with
  | tax | tay | txa | tya | tsx | txs | jmpAbs | nop | inx | iny | dex | dey | clc | sec | cld | sed | cli | sei
  | clv | aslA | lsrA | rolA | rorA | ldaImm | ldxImm | ldyImm | andImm | oraImm | eorImm | cmpImm | cpxImm
  | cpyImm =>
    exact keeps_next rfl
  | ldaZp | ldaZpX | ldaAbs | ldaAbsX | ldaAbsY | ldxZp | ldxZpY | ldxAbs | ldxAbsY | ldyZp | ldyZpX | ldyAbs
  | ldyAbsX | andZp | andZpX | andAbs | andAbsX | andAbsY | oraZp | oraZpX | oraAbs | oraAbsX | oraAbsY | eorZp
  | eorZpX | eorAbs | eorAbsX | eorAbsY | cmpZp | cmpZpX | cmpAbs | cmpAbsX | cmpAbsY | cpxZp | cpxAbs | cpyZp
  | cpyAbs | bitZp | bitAbs =>
    exact keeps_of_readByte fun _ _ => keeps_next rfl
  | ldaIndX | andIndX | oraIndX | eorIndX | cmpIndX => exact keeps_of_readIndX fun _ _ => keeps_next rfl
  | ldaIndY | andIndY | oraIndY | eorIndY | cmpIndY => exact keeps_of_readIndY fun _ _ => keeps_next rfl
  | adcImm => exact writesOnly_finishArith adcResult_flags
  | sbcImm => exact writesOnly_finishArith sbcResult_flags
  | adcZp | adcZpX | adcAbs | adcAbsX | adcAbsY =>
    exact keeps_of_readByte fun _ _ => writesOnly_finishArith adcResult_flags
  | sbcZp | sbcZpX | sbcAbs | sbcAbsX | sbcAbsY =>
    exact keeps_of_readByte fun _ _ => writesOnly_finishArith sbcResult_flags
  | adcIndX => exact keeps_of_readIndX fun _ _ => writesOnly_finishArith adcResult_flags
  | sbcIndX => exact keeps_of_readIndX fun _ _ => writesOnly_finishArith sbcResult_flags
  | adcIndY => exact keeps_of_readIndY fun _ _ => writesOnly_finishArith adcResult_flags
  | sbcIndY => exact keeps_of_readIndY fun _ _ => writesOnly_finishArith sbcResult_flags
  | staZp | staZpX | staAbs | staAbsX | staAbsY | stxZp | stxZpY | stxAbs | styZp | styZpX | styAbs =>
    exact writesOnly_storeReg
  | staIndX => exact keeps_of_withIndX fun _ _ => writesOnly_storeReg
  | staIndY => exact keeps_of_withIndY fun _ _ => writesOnly_storeReg
  | aslZp | aslZpX | aslAbs | aslAbsX | lsrZp | lsrZpX | lsrAbs | lsrAbsX | rolZp | rolZpX | rolAbs | rolAbsX
  | rorZp | rorZpX | rorAbs | rorAbsX =>
    exact writesOnly_shiftMem
  | incZp | incZpX | incAbs | incAbsX | decZp | decZpX | decAbs | decAbsX => exact writesOnly_countMem
  | pha | php => exact writesOnly_push
  | pla => exact writesOnly_execPla
  | plp => exact writesOnly_execPlp
  | jmpInd => exact writesOnly_execJmpInd
  | jsr => exact writesOnly_execJsr
  | rts => exact writesOnly_execRts
  | brk => exact writesOnly_execBrk
  | rti => exact writesOnly_execRti
  | bcc | bcs | beq | bne | bmi | bpl | bvc | bvs => exact writesOnly_branchIf

/-! The columns of the table: which instructions leave a part alone. -/

section
variable {mode : Mode} {m : Mnemonic}

theorem footprint_a_iff : (footprint mode m).a = false ↔
    ¬ (m ∈ [Mnemonic.lda, .pla, .txa, .tya, .adc, .sbc, .and, .ora, .eor] ∨
      (m ∈ [Mnemonic.asl, .lsr, .rol, .ror] ∧ mode = .accumulator)) := by
  cases m <;> simp [footprint]

theorem footprint_x_iff : (footprint mode m).x = false ↔ m ∉ [Mnemonic.ldx, .tax, .tsx, .inx, .dex] := by
  cases m <;> simp [footprint]

theorem footprint_y_iff : (footprint mode m).y = false ↔ m ∉ [Mnemonic.ldy, .tay, .iny, .dey] := by
  cases m <;> simp [footprint]

theorem footprint_sp_iff : (footprint mode m).sp = false ↔
    m ∉ [Mnemonic.txs, .pha, .php, .pla, .plp, .jsr, .rts, .rti, .brk] := by
  cases m <;> simp [footprint]

theorem footprint_nz_iff : (footprint mode m).nz = false ↔
    m ∉ [Mnemonic.lda, .ldx, .ldy, .tax, .tay, .txa, .tya, .tsx, .inx, .iny, .dex, .dey, .inc, .dec, .and, .ora, .eor,
      .adc, .sbc, .cmp, .cpx, .cpy, .bit, .asl, .rol, .lsr, .ror, .pla, .plp, .rti] := by
  cases m <;> simp [footprint]

theorem footprint_c_iff : (footprint mode m).c = false ↔
    m ∉ [Mnemonic.adc, .sbc, .cmp, .cpx, .cpy, .asl, .rol, .lsr, .ror, .plp, .rti, .clc, .sec] := by
  cases m <;> simp [footprint]

theorem footprint_v_iff : (footprint mode m).v = false ↔ m ∉ [Mnemonic.adc, .sbc, .bit, .plp, .rti, .clv] := by
  cases m <;> simp [footprint]

theorem footprint_i_iff : (footprint mode m).i = false ↔ m ∉ [Mnemonic.cli, .sei, .plp, .rti, .brk] := by
  cases m <;> simp [footprint]

theorem footprint_d_iff : (footprint mode m).d = false ↔ m ∉ [Mnemonic.cld, .sed, .plp, .rti] := by
  cases m <;> simp [footprint]

theorem footprint_mem_iff : (footprint mode m).mem = false ↔
    m ∉ [Mnemonic.sta, .stx, .sty, .inc, .dec, .pha, .php, .jsr, .brk] ∧
      (m ∈ [Mnemonic.asl, .lsr, .rol, .ror] → mode = .accumulator) := by
  cases m <;> simp [footprint]

theorem footprint_jump_iff : (footprint mode m).jump = false ↔
    m ∉ [Mnemonic.jmp, .jsr, .rts, .rti, .brk, .bcc, .bcs, .beq, .bne, .bmi, .bpl, .bvc, .bvs] := by
  cases m <;> simp [footprint]

end

/-- The bytes of an instruction are as many as its mode says (`30_encoding.md` R50). -/
theorem length_encode (i : Instr) : (encode i).length = i.mode.length := by cases i <;> rfl

/-- Settles O53: memory is in the footprint of no instruction that stores nothing. -/
theorem nothingStoredByOthers : Obligations.NothingStoredByOthers := by
  unfold Obligations.NothingStoredByOthers
  intro i s t hi h
  exact State.peek_eq_of_mem ((writesOnly_exec i s t h).mem_eq (footprint_mem_iff.mpr hi))

/-- Settles O57: a register that differs is in the footprint. -/
theorem registerWriters : Obligations.RegisterWriters := by
  unfold Obligations.RegisterWriters
  intro i s t h
  have hw := writesOnly_exec i s t h
  exact ⟨not_imp_comm.mp fun hm => hw.a_eq (footprint_a_iff.mpr hm),
    not_imp_comm.mp fun hm => hw.x_eq (footprint_x_iff.mpr hm),
    not_imp_comm.mp fun hm => hw.y_eq (footprint_y_iff.mpr hm),
    not_imp_comm.mp fun hm => hw.sp_eq (footprint_sp_iff.mpr hm)⟩

/-- Settles O58: a flag that differs is in the footprint. -/
theorem flagWriters : Obligations.FlagWriters := by
  unfold Obligations.FlagWriters
  intro i s t h
  have hw := writesOnly_exec i s t h
  refine ⟨fun hnz => ?_, not_imp_comm.mp fun hm => hw.c_eq (footprint_c_iff.mpr hm),
    not_imp_comm.mp fun hm => hw.v_eq (footprint_v_iff.mpr hm),
    not_imp_comm.mp fun hm => hw.i_eq (footprint_i_iff.mpr hm),
    not_imp_comm.mp fun hm => hw.d_eq (footprint_d_iff.mpr hm)⟩
  obtain hn | hz := hnz
  · exact not_imp_comm.mp (fun hm => hw.n_eq (footprint_nz_iff.mpr hm)) hn
  · exact not_imp_comm.mp (fun hm => hw.z_eq (footprint_nz_iff.mpr hm)) hz

/-- Settles O59: an instruction that does not jump leaves `pc` after itself. -/
theorem pcAdvancesByLength : Obligations.PcAdvancesByLength := by
  unfold Obligations.PcAdvancesByLength
  intro i s t h hi
  exact ⟨(writesOnly_exec i s t h).pc_eq (footprint_jump_iff.mpr hi), length_encode i⟩

/-! # The state after RESET -/

/-- Settles O5: a memory that lists nothing is canonical. -/
theorem resetMemoryCanonical : Obligations.ResetMemoryCanonical := by
  unfold Obligations.ResetMemoryCanonical Inv
  rfl

/-- Settles O43: the fields as `State.reset` has them, and its empty map. -/
theorem stateAfterReset : Obligations.StateAfterReset := by
  unfold Obligations.StateAfterReset
  exact ⟨rfl, rfl, rfl, rfl, rfl, rfl, State.kindAt_of_nil rfl⟩

end Sys2Proof.Machine

/-! # Memory

The canonical form of memory and the content of `rom` survive a write, so every step keeps them; a store is read back at
the address it went to; and a push writes at the address that `S` designates and nowhere else. -/

namespace Sys2Proof.Machine

open Sys2Proof.Claims

/-- A run of `n + 1` steps that goes on is one step that goes on, and a run of `n` from there. -/
theorem run_succ_next {M : Host.Core} {n : Nat} {s t : M.State} (h : M.run (n + 1) s = .next t) :
    ∃ u, M.step s = .next u ∧ M.run n u = .next t := by
  unfold Host.Core.run at h
  split at h
  · next u hu => exact ⟨u, hu, h⟩
  · cases h
  · cases h

/-- What every step keeps, any number of steps keep. -/
theorem StepClosed.of_run {P : State → Prop} (hP : StepClosed P) {n : Nat} {s t : State} (hs : P s)
    (h : Host.Core.run core n s = .next t) : P t := by
  induction n generalizing s with
  | zero => cases h; exact hs
  | succ n ih =>
    obtain ⟨u, hu, h⟩ := run_succ_next h
    exact ih (hP.keeps_step hs u hu) h

/-- The canonical form stays: all that writes memory is a store of one byte. -/
theorem stepClosed_inv : StepClosed Inv where
  regs h _ _ _ _ _ _ := h
  draw h := h
  poke h a v := State.wf_poke h a v
  control h _ _ _ _ _ := h

/-- Settles O4, by what every step keeps. -/
theorem stepKeepsMemoryCanonical : Obligations.StepKeepsMemoryCanonical := by
  unfold Obligations.StepKeepsMemoryCanonical
  intro s t hs h
  exact stepClosed_inv.keeps_step hs t h

/-- No write, wherever it goes, changes the byte at an address the map marks `rom`
(`93_implementation_defined.md` U8). -/
theorem State.read_poke_rom {s : State} {a : Word} (h : s.kindAt a = .rom) (b : Word) (v : Byte) :
    (s.poke b v).read a = s.mem.read a := by
  by_cases hb : a = b
  · subst hb
    rw [State.poke_of_not_ram (by simp [h])]
  · exact State.read_poke_other hb s v

/-- An address of `rom` stays one and keeps its byte. -/
theorem stepClosed_rom (a : Word) (v : Byte) : StepClosed fun t => t.kindAt a = .rom ∧ t.peek a = v where
  regs h _ _ _ _ _ _ := h
  draw h := h
  poke := fun ⟨hrom, hv⟩ b w => ⟨hrom, (State.read_poke_rom hrom b w).trans hv⟩
  control h _ _ _ _ _ := h

/-- Settles O6: the content of `rom` is kept by every step, hence by every run. -/
theorem romNeverChanges : Obligations.RomNeverChanges := by
  unfold Obligations.RomNeverChanges
  intro n s t a hrom h
  exact (stepClosed_rom a (s.peek a)).of_run ⟨hrom, rfl⟩ h

/-- A store completes where the map has no device. -/
theorem storeReg_eq {s : State} {g : Reg} {len ea : Word} (h : s.kindAt ea ≠ .device) :
    storeReg g len ea s = .next { s with mem := s.poke ea (s.reg g), pc := s.pc + len } :=
  writeByte_eq h (s.reg g) _

/-- Settles O52: the store lands, since the map has `ram`, and `pc` then designates the byte stored. -/
theorem storeIsSeenByNextFetch : Obligations.StoreIsSeenByNextFetch := by
  unfold Obligations.StoreIsSeenByNextFetch
  intro s hs hram
  have hdev : s.kindAt (s.pc + 3) ≠ .device := by rw [hram]; decide
  exact ⟨_, storeReg_eq hdev, rfl, .inl hram, State.read_poke_same hs hram s.a⟩

/-! The frames of the pushes. -/

section
variable {s : State} {b : Word}

/-- Pushing a word leaves every address alone but the two it goes to. -/
theorem State.read_pushedWord_other (h0 : b ≠ stackAddr s.sp) (h1 : b ≠ stackAddr (s.sp - 1)) (w : Word) :
    (s.pushedWord w).read b = s.mem.read b :=
  (State.read_poke_other h1 _ _).trans (State.read_poke_other h0 s _)

/-- A trap entry leaves every address alone but the three it pushes to. -/
theorem State.read_trapped_other (h0 : b ≠ stackAddr s.sp) (h1 : b ≠ stackAddr (s.sp - 1))
    (h2 : b ≠ stackAddr (s.sp - 2)) (ret : Word) (brk : Bool) : (s.trapped ret brk).read b = s.mem.read b := by
  have h2' : b ≠ stackAddr (s.sp - 1 - 1) := by rwa [BitVec.sub_sub]
  exact (State.read_poke_other h2' _ _).trans (State.read_pushedWord_other h0 h1 ret)

end

section
variable {s t : State}

/-- PHA and PHP: one byte of memory, `S` and `pc` differ. -/
theorem push_advance_next {v : Byte} {len : Word} (h : push v s (fun s1 => .next (s1.advance len)) = .next t) :
    t = { s with mem := s.poke (stackAddr s.sp) v, sp := s.sp - 1, pc := s.pc + len } := by
  obtain ⟨-, h⟩ := push_next h
  cases h
  rfl

/-- JSR: the return address is pushed, and `pc` is the operand. -/
theorem execJsr_next {addr : Word} (h : execJsr addr s = .next t) :
    t = { s with mem := s.pushedWord (s.pc + 2), sp := s.sp - 1 - 1, pc := addr } := by
  unfold execJsr at h
  split at h
  · cases h
  · obtain ⟨-, -, h⟩ := pushWord_next h
    cases h
    rfl

/-- BRK: the trap entry, which sets `I` and takes `pc` from a vector. -/
theorem execBrk_next (h : execBrk s = .next t) :
    ∃ w n, t = { s with
      mem := s.trapped (s.pc + 2) true, sp := s.sp - 1 - 1 - 1, p := { s.p with i := true }, draws := n, pc := w } := by
  obtain ⟨w, n, -, -, -, -, -, -, h⟩ := enterTrap_next h
  cases h
  exact ⟨w, n, rfl⟩

theorem push_advance_frame {v : Byte} {len : Word} (h : push v s (fun s1 => .next (s1.advance len)) = .next t) :
    t.a = s.a ∧ t.x = s.x ∧ t.y = s.y ∧ t.p = s.p ∧ ∀ b, b ≠ stackByte s.sp → t.peek b = s.peek b := by
  obtain rfl := push_advance_next h
  exact ⟨rfl, rfl, rfl, rfl, fun b hb => State.read_poke_other hb s v⟩

end

/-- Settles O56: the bytes pushed are all of memory that differs. -/
theorem stackWriteFrames : Obligations.StackWriteFrames := by
  unfold Obligations.StackWriteFrames
  refine fun s t => ⟨?pushes, ?jsr, ?brk⟩
  case pushes =>
    rintro i (rfl | rfl) h
    · exact push_advance_frame (v := s.a) h
    · exact push_advance_frame (v := pByte true s.p) h
  case jsr =>
    intro addr h
    obtain rfl := execJsr_next h
    exact ⟨rfl, rfl, rfl, rfl, fun b h0 h1 => State.read_pushedWord_other h0 h1 _⟩
  case brk =>
    intro h
    obtain ⟨w, n, rfl⟩ := execBrk_next h
    exact ⟨rfl, rfl, rfl, fun b h0 h1 h2 => State.read_trapped_other h0 h1 h2 _ _⟩

end Sys2Proof.Machine

/-! # The opcode map

Its 151 opcodes and the 105 undefined bytes are each byte once (`30_encoding.md` R56, R57). So an entry of the map is
what its opcode selects, and a byte selects nothing exactly when it is one of the undefined ones. -/

namespace Sys2Proof

open Machine Claims

theorem opcodes_perm_range :
    List.Perm (opcodeMap.map Prod.fst ++ undefinedOpcodes.map BitVec.toNat) (List.range 256) := by
  decide +kernel

theorem opcodes_nodup : (opcodeMap.map Prod.fst ++ undefinedOpcodes.map BitVec.toNat).Nodup :=
  opcodes_perm_range.nodup_iff.mpr List.nodup_range

/-- A byte is a key of the map or undefined, and not both. -/
theorem mem_undefinedOpcodes_iff {b : Byte} : b ∈ undefinedOpcodes ↔ b.toNat ∉ opcodeMap.map Prod.fst := by
  have hmem : b ∈ undefinedOpcodes ↔ b.toNat ∈ undefinedOpcodes.map BitVec.toNat :=
    (List.mem_map_of_injective fun _ _ => BitVec.eq_of_toNat_eq).symm
  have hall : b.toNat ∈ opcodeMap.map Prod.fst ++ undefinedOpcodes.map BitVec.toNat :=
    opcodes_perm_range.mem_iff.mpr (List.mem_range.mpr b.isLt)
  rw [hmem]
  exact ⟨fun hu hd => List.disjoint_of_nodup_append opcodes_nodup hd hu, (List.mem_append.mp hall).resolve_left⟩

/-! The search in a list of entries. -/

section
variable {n : Nat} {f : Form} {l : List (Nat × Form)}

theorem mem_of_findForm (h : findForm n l = some f) : (n, f) ∈ l := by
  induction l with
  | nil => cases h
  | cons e l ih =>
    unfold findForm at h
    split at h
    · next hn =>
      cases h
      simp [hn]
    · exact List.mem_cons_of_mem _ (ih h)

theorem findForm_eq_none_iff : findForm n l = none ↔ n ∉ l.map Prod.fst := by
  induction l with
  | nil => simp [findForm]
  | cons e l ih =>
    unfold findForm
    split
    · next hn => simp [hn]
    · next hn => simpa [hn] using ih

/-- Where no opcode has two entries, an entry is found. -/
theorem findForm_of_mem (hl : (l.map Prod.fst).Nodup) (h : (n, f) ∈ l) : findForm n l = some f := by
  cases hg : findForm n l with
  | none => exact absurd (List.mem_map_of_mem h) (findForm_eq_none_iff.mp hg)
  | some g =>
    have he := List.inj_on_of_nodup_map hl (mem_of_findForm hg) h rfl
    cases he
    rfl

end

theorem opcodeForm_eq_none_iff {b : Byte} : opcodeForm b = none ↔ b ∈ undefinedOpcodes :=
  findForm_eq_none_iff.trans mem_undefinedOpcodes_iff.symm

theorem opcodeForm_eq_some_iff {b : Byte} {f : Form} : opcodeForm b = some f ↔ (b.toNat, f) ∈ opcodeMap :=
  ⟨mem_of_findForm, findForm_of_mem (List.Nodup.of_append_left opcodes_nodup)⟩

/-- A row of the opcode map, by the high digit of its opcodes. -/
def opcodeRow : Nat → List (Nat × Form)
  | 0x0 => opcodeRow0
  | 0x1 => opcodeRow1
  | 0x2 => opcodeRow2
  | 0x3 => opcodeRow3
  | 0x4 => opcodeRow4
  | 0x5 => opcodeRow5
  | 0x6 => opcodeRow6
  | 0x7 => opcodeRow7
  | 0x8 => opcodeRow8
  | 0x9 => opcodeRow9
  | 0xA => opcodeRowA
  | 0xB => opcodeRowB
  | 0xC => opcodeRowC
  | 0xD => opcodeRowD
  | 0xE => opcodeRowE
  | 0xF => opcodeRowF
  | _ => []

theorem opcodeRow_subset_opcodeMap (k : Nat) : opcodeRow k ⊆ opcodeMap := by
  unfold opcodeRow opcodeMap
  split <;> simp [List.subset_def] <;> tauto

/-- What the row of an opcode has for it, the opcode selects. -/
theorem opcodeForm_of_row {op : Byte} {n : Nat} {f : Form} (hop : op = BitVec.ofNat 8 n)
    (h : findForm n (opcodeRow (n / 16)) = some f) : opcodeForm op = some f := by
  have hmem : (n, f) ∈ opcodeMap := opcodeRow_subset_opcodeMap _ (mem_of_findForm h)
  have hn : n < 256 := List.mem_range.mp (opcodes_perm_range.mem_iff.mp
    (List.mem_append_left _ (List.mem_map_of_mem hmem)))
  subst hop
  refine opcodeForm_eq_some_iff.mpr ?_
  rwa [BitVec.toNat_ofNat, Nat.mod_eq_of_lt hn]

end Sys2Proof

/-! # The decoder and the encoder undo each other -/

namespace Sys2Proof

open Machine Claims

/-! A displacement in range and the byte that spells it (`30_encoding.md` R52). -/

theorem byteOfInt_signed8 (b : Byte) : byteOfInt (signed8 b) = b := BitVec.ofInt_toInt

theorem signed8_byteOfInt {d : Int} (hl : -128 ≤ d) (hh : d ≤ 127) : signed8 (byteOfInt d) = d := by
  rw [signed8, byteOfInt, BitVec.toInt_ofInt]
  exact Int.bmod_eq_of_le (by omega) (by omega)

theorem wf_disp_iff {d : Int} : (Operand.disp d).wf = true ↔ -128 ≤ d ∧ d ≤ 127 := by
  simp [Operand.wf]

theorem wf_disp_signed8 (b : Byte) : (Operand.disp (signed8 b)).wf = true :=
  wf_disp_iff.mpr ⟨BitVec.le_toInt b, Int.le_of_lt_add_one (BitVec.toInt_lt (x := b))⟩

/-! What the decoder reads where the opcode is known, a format each (`30_encoding.md` R51). -/

section
variable {op : Byte} (rest : List Byte)

theorem decode_one {i : Instr} (h : opcodeForm op = some (.one i)) : decode (op :: rest) = .ok (i, rest) := by
  simp only [decode, h]

theorem decode_two {mk : Byte → Instr} (h : opcodeForm op = some (.two mk)) (d : Byte) :
    decode (op :: d :: rest) = .ok (mk d, rest) := by
  simp only [decode, h]

theorem decode_three {mk : Word → Instr} (h : opcodeForm op = some (.three mk)) (lo hi : Byte) :
    decode (op :: lo :: hi :: rest) = .ok (mk (wordOf hi lo), rest) := by
  simp only [decode, h]

end

/-- The opcode of `i` selects, for an operand of this kind, the form that makes `i` of it. -/
def SelectedBy (i : Instr) : Operand → Prop
  | .none => opcodeForm i.opcode = some (.one i)
  | .byte d => ∃ mk, opcodeForm i.opcode = some (.two mk) ∧ mk d = i
  | .word w => ∃ mk, opcodeForm i.opcode = some (.three mk) ∧ mk w = i
  | .disp d => ∃ mk, opcodeForm i.opcode = some (branchForm mk) ∧ mk d = i

/-- The opcode map has every instruction under its opcode, in the format of its operand (`30_encoding.md` R56). -/
theorem selectedBy_operand (i : Instr) : SelectedBy i i.operand := by
  cases i with
  | tax | tay | txa | tya | tsx | txs | inx | iny | dex | dey | pha | pla | php | plp | clc | sec | cld | sed | cli
  | sei | clv | aslA | lsrA | rolA | rorA | rts | brk | rti | nop =>
    exact opcodeForm_of_row rfl rfl
  | _ => exact ⟨_, opcodeForm_of_row rfl rfl, rfl⟩

/-- Settles O1: the form an opcode selects makes the instruction of its operand bytes. -/
theorem decodeOfEncode : Obligations.DecodeOfEncode := by
  unfold Obligations.DecodeOfEncode
  intro i rest hwf
  have hsel := selectedBy_operand i
  unfold encode
  unfold WellFormed Instr.wf at hwf
  cases ho : i.operand with
  | none =>
    rw [ho] at hsel
    exact decode_one rest hsel
  | byte d =>
    rw [ho] at hsel
    obtain ⟨mk, hf, rfl⟩ := hsel
    exact decode_two rest hf d
  | word w =>
    rw [ho] at hsel
    obtain ⟨mk, hf, rfl⟩ := hsel
    simpa [Operand.bytes] using decode_three rest hf (loByte w) (hiByte w)
  | disp d =>
    rw [ho] at hsel hwf
    obtain ⟨mk, hf, rfl⟩ := hsel
    obtain ⟨hl, hh⟩ := wf_disp_iff.mp hwf
    simpa [Operand.bytes, signed8_byteOfInt hl hh] using decode_two rest hf (byteOfInt d)

/-- The encoding of a well-formed instruction is exactly that instruction. -/
theorem decodes_encode {i : Instr} (hwf : WellFormed i) : Decodes (encode i) i := by
  simpa [Decodes] using decodeOfEncode i [] hwf

/-- Settles O3: each word is the encoding of its instruction, whose displacement, if it has one, is in range. -/
theorem someWordsDecode : Obligations.SomeWordsDecode := by
  unfold Obligations.SomeWordsDecode
  have hbne : encode (.bne (-34)) = [0xD0, 0xDE] := by decide
  exact ⟨decodes_encode (i := .ldaAbs 0x1234) rfl, decodes_encode (i := .ldaImm 0x42) rfl,
    decodes_encode (i := .jmpInd 0x30FF) rfl, decodes_encode (i := .ldaIndY 0x80) rfl,
    hbne ▸ decodes_encode rfl, decodes_encode (i := .aslA) rfl, decodes_encode (i := .stxZpY 0x10) rfl,
    decodes_encode (i := .brk) rfl, decodes_encode (i := .incZp 0xFF) rfl⟩

/-- The operand is one that an operand byte spells: the byte itself, or the displacement it gives. -/
def Operand.SpelledBy (d : Byte) : Operand → Prop
  | .none => False
  | .byte b => b = d
  | .word _ => False
  | .disp z => z = signed8 d

theorem Operand.bytes_of_spelledBy {d : Byte} {o : Operand} (h : o.SpelledBy d) : o.bytes = [d] := by
  cases o with
  | none | word => cases h
  | byte b => cases h; rfl
  | disp z => cases h; exact congrArg (fun b => [b]) (byteOfInt_signed8 d)

theorem Operand.wf_of_spelledBy {d : Byte} {o : Operand} (h : o.SpelledBy d) : o.wf = true := by
  cases o with
  | none | word => cases h
  | byte b => rfl
  | disp z => cases h; exact wf_disp_signed8 d

/-- Whatever the form makes has the opcode `op` and the operand that its bytes spell. -/
def Form.Makes (op : Byte) : Form → Prop
  | .one i => i.opcode = op ∧ i.operand = .none
  | .two mk => (∀ d, (mk d).opcode = op) ∧ ∀ d, (mk d).operand.SpelledBy d
  | .three mk => (∀ w, (mk w).opcode = op) ∧ ∀ w, (mk w).operand = .word w

/-- Every entry of the opcode map makes instructions of its own opcode (`30_encoding.md` R56). -/
theorem makes_of_mem_opcodeMap : ∀ e ∈ opcodeMap, e.2.Makes (BitVec.ofNat 8 e.1) := by
  simp only [opcodeMap, opcodeRow0, opcodeRow1, opcodeRow2, opcodeRow3, opcodeRow4, opcodeRow5, opcodeRow6, opcodeRow7,
    opcodeRow8, opcodeRow9, opcodeRowA, opcodeRowB, opcodeRowC, opcodeRowD, opcodeRowE, opcodeRowF,
    List.forall_mem_append, List.forall_mem_cons, List.not_mem_nil, IsEmpty.forall_iff, implies_true, and_true]
  and_intros <;> intros <;> rfl

theorem makes_of_opcodeForm {op : Byte} {f : Form} (h : opcodeForm op = some f) : f.Makes op := by
  simpa using makes_of_mem_opcodeMap _ (opcodeForm_eq_some_iff.mp h)

/-- Settles O2: in each format, what the form makes of the operand bytes is encoded by them. -/
theorem encodeOfDecode : Obligations.EncodeOfDecode := by
  unfold Obligations.EncodeOfDecode
  intro bs rest i h
  unfold WellFormed Instr.wf encode
  obtain ⟨op, hf, rfl⟩ | ⟨op, d, mk, hf, rfl, rfl⟩ | ⟨op, lo, hi, mk, hf, rfl, rfl⟩ := decode_ok h
  · obtain ⟨hop, ho⟩ := makes_of_opcodeForm hf
    rw [hop, ho]
    exact ⟨rfl, rfl⟩
  · obtain ⟨hop, ho⟩ := makes_of_opcodeForm hf
    rw [hop, Operand.bytes_of_spelledBy (ho d)]
    exact ⟨Operand.wf_of_spelledBy (ho d), rfl⟩
  · obtain ⟨hop, ho⟩ := makes_of_opcodeForm hf
    rw [hop, ho]
    simp [Operand.wf, Operand.bytes]

end Sys2Proof

/-! # What is refused, and why

The inversions of a refusal, read as those of a next state are: an operation, with what follows it, refuses on the
grounds `Q` alone when a device is such a ground and what follows refuses on them alone. -/

namespace Sys2Proof.Machine

open Sys2Proof.Claims

/-- Where storage answers with a byte that selects no instruction, the fetch is refused. -/
theorem fetchInstr_undefined {α : Type} {s : State} (h0 : s.Plain s.pc) (hf : opcodeForm (s.peek s.pc) = none)
    (k : Instr → State → Answer α) : fetchInstr s k = .refused (.undefinedOpcode (s.peek s.pc) s.pc) := by
  unfold fetchInstr
  rw [readByte_plain h0]
  simp only [hf]

/-- Settles O9: the undefined bytes are those with no entry in the opcode map, and the fetch refuses them. -/
theorem undefinedOpcodeRefused : Obligations.UndefinedOpcodeRefused := by
  unfold Obligations.UndefinedOpcodeRefused
  refine ⟨rfl, fun b => Option.isNone_iff_eq_none.trans opcodeForm_eq_none_iff, ?_⟩
  intro s hq h0 hb
  rw [step_of_quiet hq]
  exact fetchInstr_undefined (s := sampleLines s) h0 (opcodeForm_eq_none_iff.mpr hb) _

/-- Every refusal answered has the ground `Q`. -/
def RefusesOn (Q : Refusal → Prop) (r : Result) : Prop := ∀ e, r = .refused e → Q e

/-- A device of the map is a ground for refusing. -/
def DeviceGround (Q : Refusal → Prop) (s : State) : Prop := ∀ a, s.kindAt a = .device → Q (.deviceAccess a)

section
variable {Q : Refusal → Prop} {s : State}

theorem refusesOn_next {t : State} : RefusesOn Q (.next t) := by
  rintro _ ⟨⟩

theorem refusesOn_readByte {a : Word} {k : Byte → State → Result} (hQ : DeviceGround Q s)
    (hk : ∀ v n, RefusesOn Q (k v { s with draws := n })) : RefusesOn Q (readByte a s k) := by
  intro e h
  obtain ⟨ha, rfl⟩ | ⟨v, n, h, -⟩ := readByte_refused h
  · exact hQ a ha
  · exact hk v n e h

theorem refusesOn_writeByte {a : Word} {v : Byte} {k : State → Result} (hQ : DeviceGround Q s)
    (hk : ∀ m, RefusesOn Q (k { s with mem := m })) : RefusesOn Q (writeByte a v s k) := by
  intro e h
  obtain ⟨ha, rfl⟩ | h := writeByte_refused h
  · exact hQ a ha
  · exact hk _ e h

theorem refusesOn_readPair {la ha : Word} {k : Word → State → Result} (hQ : DeviceGround Q s)
    (hk : ∀ w n, RefusesOn Q (k w { s with draws := n })) : RefusesOn Q (readPair la ha s k) :=
  refusesOn_readByte hQ fun _ _ => refusesOn_readByte hQ fun _ _ => hk _ _

theorem refusesOn_withIndX {d : Byte} {k : Word → State → Result} (hQ : DeviceGround Q s)
    (hk : ∀ w n, RefusesOn Q (k w { s with draws := n })) : RefusesOn Q (withIndX d s k) :=
  refusesOn_readPair hQ hk

theorem refusesOn_withIndY {d : Byte} {k : Word → State → Result} (hQ : DeviceGround Q s)
    (hk : ∀ w n, RefusesOn Q (k w { s with draws := n })) : RefusesOn Q (withIndY d s k) := by
  unfold withIndY read16zp
  exact refusesOn_readPair hQ fun _ _ => hk _ _

/-- An operand byte read through (Ind,X). -/
theorem refusesOn_readIndX {d : Byte} {f : Byte → State → Result} (hQ : DeviceGround Q s)
    (hf : ∀ v n, RefusesOn Q (f v { s with draws := n })) :
    RefusesOn Q (withIndX d s fun ea s1 => readByte ea s1 f) :=
  refusesOn_withIndX hQ fun _ _ => refusesOn_readByte hQ hf

/-- An operand byte read through (Ind),Y. -/
theorem refusesOn_readIndY {d : Byte} {f : Byte → State → Result} (hQ : DeviceGround Q s)
    (hf : ∀ v n, RefusesOn Q (f v { s with draws := n })) :
    RefusesOn Q (withIndY d s fun ea s1 => readByte ea s1 f) :=
  refusesOn_withIndY hQ fun _ _ => refusesOn_readByte hQ hf

theorem refusesOn_push {v : Byte} {k : State → Result} (hQ : DeviceGround Q s)
    (hk : ∀ m, RefusesOn Q (k { s with mem := m, sp := s.sp - 1 })) : RefusesOn Q (push v s k) :=
  refusesOn_writeByte hQ hk

theorem refusesOn_pull {k : Byte → State → Result} (hQ : DeviceGround Q s)
    (hk : ∀ v n, RefusesOn Q (k v { s with sp := s.sp + 1, draws := n })) : RefusesOn Q (pull s k) :=
  refusesOn_readByte (s := { s with sp := s.sp + 1 }) hQ hk

theorem refusesOn_pushWord {w : Word} {k : State → Result} (hQ : DeviceGround Q s)
    (hk : ∀ m, RefusesOn Q (k { s with mem := m, sp := s.sp - 1 - 1 })) : RefusesOn Q (pushWord w s k) :=
  refusesOn_push hQ fun m => refusesOn_push (s := { s with mem := m, sp := s.sp - 1 }) hQ hk

theorem refusesOn_pullWord {k : Word → State → Result} (hQ : DeviceGround Q s)
    (hk : ∀ w n, RefusesOn Q (k w { s with sp := s.sp + 1 + 1, draws := n })) : RefusesOn Q (pullWord s k) :=
  refusesOn_pull hQ fun _ n => refusesOn_pull (s := { s with sp := s.sp + 1, draws := n }) hQ fun _ _ => hk _ _

theorem refusesOn_enterTrap {ret vec : Word} {b : Bool} {k : State → Result} (hQ : DeviceGround Q s)
    (hk : ∀ t, RefusesOn Q (k t)) : RefusesOn Q (enterTrap ret b vec s k) :=
  refusesOn_pushWord hQ fun _ => refusesOn_push hQ fun _ => refusesOn_readPair hQ fun _ _ => hk _

theorem refusesOn_returnFromTrap {k : State → Result} (hQ : DeviceGround Q s)
    (hk : ∀ t, RefusesOn Q (k t)) : RefusesOn Q (returnFromTrap s k) :=
  refusesOn_pull hQ fun _ _ => refusesOn_pullWord hQ fun _ _ => hk _

theorem refusesOn_storeReg {r : Reg} {len ea : Word} (hQ : DeviceGround Q s) : RefusesOn Q (storeReg r len ea s) :=
  refusesOn_writeByte hQ fun _ => refusesOn_next

theorem refusesOn_shiftMem {op : Byte → Bool → Byte × Bool} {len ea : Word} (hQ : DeviceGround Q s) :
    RefusesOn Q (shiftMem op len ea s) :=
  refusesOn_readByte hQ fun _ _ => refusesOn_writeByte hQ fun _ => refusesOn_next

theorem refusesOn_countMem {delta : Byte} {len ea : Word} (hQ : DeviceGround Q s) :
    RefusesOn Q (countMem delta len ea s) :=
  refusesOn_readByte hQ fun _ _ => refusesOn_writeByte hQ fun _ => refusesOn_next

theorem refusesOn_branchIf {c : Bool} {d : Int} : RefusesOn Q (branchIf c d s) := by
  rw [branchIf_eq]
  exact refusesOn_next

/-- PHA and PHP. -/
theorem refusesOn_push_advance {v : Byte} {len : Word} (hQ : DeviceGround Q s) :
    RefusesOn Q (push v s fun s1 => .next (s1.advance len)) :=
  refusesOn_push hQ fun _ => refusesOn_next

theorem refusesOn_execPla (hQ : DeviceGround Q s) : RefusesOn Q (execPla s) :=
  refusesOn_pull hQ fun _ _ => refusesOn_next

theorem refusesOn_execPlp (hQ : DeviceGround Q s) : RefusesOn Q (execPlp s) :=
  refusesOn_pull hQ fun _ _ => refusesOn_next

theorem refusesOn_execJmpInd {addr : Word} (hQ : DeviceGround Q s) : RefusesOn Q (execJmpInd addr s) := by
  unfold execJmpInd withIndirect
  exact refusesOn_readPair hQ fun _ _ => refusesOn_next

theorem refusesOn_execRts (hQ : DeviceGround Q s) : RefusesOn Q (execRts s) :=
  refusesOn_pullWord hQ fun _ _ => refusesOn_next

theorem refusesOn_execJsr {addr : Word} (hQ : DeviceGround Q s)
    (hJ : jsrOverwritesOperand s = true → Q (.jsrOverwritesOperand s.pc)) : RefusesOn Q (execJsr addr s) := by
  unfold execJsr
  split
  · next ho =>
    rintro _ ⟨⟩
    exact hJ ho
  · exact refusesOn_pushWord hQ fun _ => refusesOn_next

theorem adcResult_eq_none {mode : DecimalMode} {a m : Byte} {p : Flags} (h : adcResult mode a m p = none) :
    p.d = true ∧ mode = .refuse := by
  unfold adcResult at h
  split at h
  · next hd =>
    cases mode with
    | refuse => exact ⟨hd, rfl⟩
    | nmosBcd | binary => cases h
  · cases h

theorem sbcResult_eq_none {mode : DecimalMode} {a m : Byte} {p : Flags} (h : sbcResult mode a m p = none) :
    p.d = true ∧ mode = .refuse := by
  unfold sbcResult at h
  split at h
  · next hd =>
    cases mode with
    | refuse => exact ⟨hd, rfl⟩
    | nmosBcd | binary => cases h
  · cases h

theorem refusesOn_finishArith {q : Option (Byte × Flags)} {len : Word} (h : q = none → Q .decimalArithmetic) :
    RefusesOn Q (finishArith q len s) := by
  cases q with
  | some q => exact refusesOn_next
  | none =>
    rintro _ ⟨⟩
    exact h rfl

/-- `D = 1` under `DecimalMode = refuse` is a ground for refusing (`45_arith_logic_compare.md` R126). -/
def DecimalGround (Q : Refusal → Prop) (s : State) : Prop :=
  s.p.d = true → s.params.decimal = .refuse → Q .decimalArithmetic

theorem refusesOn_finishAdc {len : Word} {m : Byte} {n : Nat} (hD : DecimalGround Q s) :
    RefusesOn Q (finishAdc len m { s with draws := n }) :=
  refusesOn_finishArith fun h => by
    obtain ⟨hd, hr⟩ := adcResult_eq_none h
    exact hD hd hr

theorem refusesOn_finishSbc {len : Word} {m : Byte} {n : Nat} (hD : DecimalGround Q s) :
    RefusesOn Q (finishSbc len m { s with draws := n }) :=
  refusesOn_finishArith fun h => by
    obtain ⟨hd, hr⟩ := sbcResult_eq_none h
    exact hD hd hr

end

/-- The grounds on which an instruction is refused: an access to a device (`93_implementation_defined.md` U7), decimal
arithmetic in ADC and SBC (U3), a JSR whose pushes overwrite its own third byte (U19). -/
inductive ExecGround (i : Instr) (s : State) : Refusal → Prop
  | device {a : Word} (h : s.kindAt a = .device) : ExecGround i s (.deviceAccess a)
  | decimal (hi : i.mnemonic ∈ [Mnemonic.adc, .sbc]) (hd : s.p.d = true) (hr : s.params.decimal = .refuse) :
    ExecGround i s .decimalArithmetic
  | jsr {addr : Word} (hi : i = .jsr addr) (ho : jsrOverwritesOperand s = true) :
    ExecGround i s (.jsrOverwritesOperand s.pc)

theorem deviceGround_execGround (i : Instr) (s : State) : DeviceGround (ExecGround i s) s := fun _ => .device

theorem decimalGround_of_adc {i : Instr} {s : State} (hi : i.mnemonic = .adc) : DecimalGround (ExecGround i s) s :=
  .decimal (by simp [hi])

theorem decimalGround_of_sbc {i : Instr} {s : State} (hi : i.mnemonic = .sbc) : DecimalGround (ExecGround i s) s :=
  .decimal (by simp [hi])

/-- What an instruction is refused for, by the shape of its row. -/
theorem refusesOn_exec (i : Instr) (s : State) : RefusesOn (ExecGround i s) (exec i s) := by
  have hQ := deviceGround_execGround i s
  cases i with
  | tax | tay | txa | tya | tsx | txs | jmpAbs | nop | inx | iny | dex | dey | clc | sec | cld | sed | cli | sei
  | clv | aslA | lsrA | rolA | rorA | ldaImm | ldxImm | ldyImm | andImm | oraImm | eorImm | cmpImm | cpxImm
  | cpyImm =>
    exact refusesOn_next
  | ldaZp | ldaZpX | ldaAbs | ldaAbsX | ldaAbsY | ldxZp | ldxZpY | ldxAbs | ldxAbsY | ldyZp | ldyZpX | ldyAbs
  | ldyAbsX | andZp | andZpX | andAbs | andAbsX | andAbsY | oraZp | oraZpX | oraAbs | oraAbsX | oraAbsY | eorZp
  | eorZpX | eorAbs | eorAbsX | eorAbsY | cmpZp | cmpZpX | cmpAbs | cmpAbsX | cmpAbsY | cpxZp | cpxAbs | cpyZp
  | cpyAbs | bitZp | bitAbs =>
    exact refusesOn_readByte hQ fun _ _ => refusesOn_next
  | ldaIndX | andIndX | oraIndX | eorIndX | cmpIndX => exact refusesOn_readIndX hQ fun _ _ => refusesOn_next
  | ldaIndY | andIndY | oraIndY | eorIndY | cmpIndY => exact refusesOn_readIndY hQ fun _ _ => refusesOn_next
  | adcImm => exact refusesOn_finishAdc (decimalGround_of_adc rfl)
  | sbcImm => exact refusesOn_finishSbc (decimalGround_of_sbc rfl)
  | adcZp | adcZpX | adcAbs | adcAbsX | adcAbsY =>
    exact refusesOn_readByte hQ fun _ _ => refusesOn_finishAdc (decimalGround_of_adc rfl)
  | sbcZp | sbcZpX | sbcAbs | sbcAbsX | sbcAbsY =>
    exact refusesOn_readByte hQ fun _ _ => refusesOn_finishSbc (decimalGround_of_sbc rfl)
  | adcIndX => exact refusesOn_readIndX hQ fun _ _ => refusesOn_finishAdc (decimalGround_of_adc rfl)
  | sbcIndX => exact refusesOn_readIndX hQ fun _ _ => refusesOn_finishSbc (decimalGround_of_sbc rfl)
  | adcIndY => exact refusesOn_readIndY hQ fun _ _ => refusesOn_finishAdc (decimalGround_of_adc rfl)
  | sbcIndY => exact refusesOn_readIndY hQ fun _ _ => refusesOn_finishSbc (decimalGround_of_sbc rfl)
  | staZp | staZpX | staAbs | staAbsX | staAbsY | stxZp | stxZpY | stxAbs | styZp | styZpX | styAbs =>
    exact refusesOn_storeReg hQ
  | staIndX => exact refusesOn_withIndX hQ fun _ _ => refusesOn_storeReg hQ
  | staIndY => exact refusesOn_withIndY hQ fun _ _ => refusesOn_storeReg hQ
  | aslZp | aslZpX | aslAbs | aslAbsX | lsrZp | lsrZpX | lsrAbs | lsrAbsX | rolZp | rolZpX | rolAbs | rolAbsX
  | rorZp | rorZpX | rorAbs | rorAbsX =>
    exact refusesOn_shiftMem hQ
  | incZp | incZpX | incAbs | incAbsX | decZp | decZpX | decAbs | decAbsX => exact refusesOn_countMem hQ
  | pha | php => exact refusesOn_push_advance hQ
  | pla => exact refusesOn_execPla hQ
  | plp => exact refusesOn_execPlp hQ
  | jmpInd => exact refusesOn_execJmpInd hQ
  | jsr => exact refusesOn_execJsr hQ (.jsr rfl)
  | rts => exact refusesOn_execRts hQ
  | brk => exact refusesOn_enterTrap hQ fun _ => refusesOn_next
  | rti => exact refusesOn_returnFromTrap hQ fun _ => refusesOn_next
  | bcc | bcs | beq | bne | bmi | bpl | bvc | bvs => exact refusesOn_branchIf

/-! The events: a device under the stack or a vector is all that stops them. -/

section
variable {Q : Refusal → Prop} {s : State}

theorem refusesOn_takeReset (hQ : DeviceGround Q s) : RefusesOn Q (takeReset s) := by
  have hQ' : DeviceGround Q s.unspecifiedByReset := fun a ha =>
    hQ a ((State.kindAt_eq_of_params s.unspecifiedByReset_params a).symm.trans ha)
  unfold takeReset enterReset read16
  exact refusesOn_readPair hQ' fun _ _ => refusesOn_next

theorem refusesOn_takeNmi (hQ : DeviceGround Q s) : RefusesOn Q (takeNmi s) :=
  refusesOn_enterTrap hQ fun _ => refusesOn_next

theorem refusesOn_takeIrq (hQ : DeviceGround Q s) : RefusesOn Q (takeIrq s) :=
  refusesOn_enterTrap hQ fun _ => refusesOn_next

end

/-- The end of an instruction adds no refusal. -/
theorem finishInstr_refused {i : Instr} {s : State} {q : Result} {e : Refusal}
    (h : finishInstr i s q = .refused e) : q = .refused e := by
  cases q with
  | next | fault => cases h
  | refused => exact h

/-- A step that is refused names a device, or fetches at a quiet boundary: a byte that is no instruction, or an
instruction that is refused on the state the fetch leaves. -/
theorem step_refused {s : State} {e : Refusal} (h : step s = .refused e) :
    (∃ a, s.kindAt a = .device ∧ e = .deviceAccess a) ∨
    (s.Quiet ∧ ∃ b, FetchesByte s b ∧ opcodeForm b = none ∧ e = .undefinedOpcode b s.pc) ∨
    (s.Quiet ∧ ∃ i n, FetchesInstr s i ∧ exec i { sampleLines s with draws := n } = .refused e) := by
  have hdev : DeviceGround (fun e => ∃ a, s.kindAt a = .device ∧ e = .deviceAccess a) (sampleLines s) :=
    fun a ha => ⟨a, ha, rfl⟩
  cases hp : pendingEvent (sampleLines s) with
  | reset =>
    simp only [step, hp] at h
    exact .inl (refusesOn_takeReset hdev e h)
  | nmi =>
    simp only [step, hp] at h
    exact .inl (refusesOn_takeNmi hdev e h)
  | irq =>
    simp only [step, hp] at h
    exact .inl (refusesOn_takeIrq hdev e h)
  | quiet =>
    have hq : s.Quiet := hp
    rw [step_of_quiet hq] at h
    obtain hb | ha | ⟨i, n, h, hfetch⟩ := fetchInstr_refused h
    · exact .inr (.inl ⟨hq, hb⟩)
    · exact .inl ha
    · exact .inr (.inr ⟨hq, i, n, hfetch _, finishInstr_refused h⟩)

theorem overwritesOperand_iff {s : State} : jsrOverwritesOperand s = true ↔ overwritesOperand s := by
  simp only [jsrOverwritesOperand, Bool.and_eq_true, Bool.or_eq_true, decide_eq_true_eq]
  rfl

/-- Settles O11: the refusals of the fetch and of the instruction, each with its ground. -/
theorem stepRefusesOnlyAsTheSpecSays : Obligations.StepRefusesOnlyAsTheSpecSays := by
  unfold Obligations.StepRefusesOnlyAsTheSpecSays
  intro s r h
  obtain hdev | ⟨hq, b, hb, hf, hr⟩ | ⟨hq, i, n, hi, h⟩ := step_refused h
  · exact .inr (.inr (.inl hdev))
  · exact .inl ⟨hq, b, hb, opcodeForm_eq_none_iff.mp hf, hr⟩
  · cases refusesOn_exec i _ r h with
    | device ha => exact .inr (.inr (.inl ⟨_, ha, rfl⟩))
    | decimal hm hd hmode => exact .inr (.inl ⟨hq, i, hi, hm, hd, hmode, rfl⟩)
    | jsr hjsr ho =>
      subst hjsr
      have ho' : overwritesOperand s := overwritesOperand_iff.mp ho
      exact .inr (.inr (.inr ⟨hq, _, hi, ho', rfl⟩))

end Sys2Proof.Machine

/-! # Transfers and register counts

An instruction of one byte that reads no memory is settled by three facts: it has no operand, its row of the cycle table
is fixed, and its meaning is an effect that leaves `pc` where it is, then the advance to the next instruction. -/

namespace Sys2Proof.Machine

open Sys2Proof.Claims

/-- The opcode byte alone spells an instruction without operand (`30_encoding.md` R51). -/
theorem decodes_opcode {i : Instr} (ho : i.operand = .none) : Decodes [i.opcode] i := by
  have hsel := selectedBy_operand i
  rw [ho] at hsel
  exact decode_one [] hsel

theorem cycles_of_fixed {i : Instr} {s : State} {n : Nat} (h : cycleRule s.p i = .fixed n) : cycles i s = .next n := by
  simp only [cycles, h]

theorem State.advance_eq_of_pc {s t : State} (h : t.pc = s.pc) (n : Word) :
    t.advance n = { t with pc := s.pc + n } := by
  rw [State.advance, h]

theorem oneByte_of_advance {i : Instr} {cyc : Nat} {eff : State → State} (ho : i.operand = .none)
    (hc : ∀ p, cycleRule p i = .fixed cyc) (hpc : ∀ s, (eff s).pc = s.pc)
    (hx : ∀ s, exec i s = .next ((eff s).advance 1)) : OneByte i.opcode i cyc eff := by
  refine ⟨decodes_opcode ho, fun s => ⟨?_, cycles_of_fixed (hc s.p)⟩⟩
  rw [hx, State.advance_eq_of_pc (hpc s)]

theorem oneByte_of_transferReg {i : Instr} {src dst : Reg} (ho : i.operand = .none)
    (hc : ∀ p, cycleRule p i = .fixed 2) (hx : exec i = transferReg src dst) :
    OneByte i.opcode i 2 fun s => s.loadReg dst (s.reg src) :=
  oneByte_of_advance ho hc (fun s => s.loadReg_pc _ _) fun s => congrFun hx s

/-- `f` is what adding the model's `delta` comes to. -/
theorem oneByte_of_countReg {i : Instr} {r : Reg} {delta : Byte} {f : Byte → Byte} (ho : i.operand = .none)
    (hc : ∀ p, cycleRule p i = .fixed 2) (hx : exec i = countReg r delta) (hf : ∀ v, v + delta = f v) :
    OneByte i.opcode i 2 fun s => s.loadReg r (f (s.reg r)) := by
  refine oneByte_of_advance ho hc (fun s => s.loadReg_pc _ _) fun s => ?_
  rw [hx, countReg, hf]

/-- The model counts down by adding `$FF` (`41_transfer_incdec.md` R98, R99). -/
theorem add_ff_eq_sub_one (v : Byte) : v + 0xFF#8 = v - 1 := (BitVec.sub_eq_add_neg v 1).symm

/-- Settles O13: five of them load the destination with the source, and TXS only writes `S`. -/
theorem transfersCopyRegister : Obligations.TransfersCopyRegister := by
  unfold Obligations.TransfersCopyRegister
  have htax := oneByte_of_transferReg (i := .tax) (src := .a) (dst := .x) rfl (fun _ => rfl) rfl
  have htay := oneByte_of_transferReg (i := .tay) (src := .a) (dst := .y) rfl (fun _ => rfl) rfl
  have htxa := oneByte_of_transferReg (i := .txa) (src := .x) (dst := .a) rfl (fun _ => rfl) rfl
  have htya := oneByte_of_transferReg (i := .tya) (src := .y) (dst := .a) rfl (fun _ => rfl) rfl
  have htsx := oneByte_of_transferReg (i := .tsx) (src := .s) (dst := .x) rfl (fun _ => rfl) rfl
  have htxs := oneByte_of_advance (i := .txs) (eff := fun s => s.setReg .s s.x) rfl (fun _ => rfl)
    (fun s => s.setReg_pc _ _) fun _ => rfl
  exact ⟨htax, htay, htxa, htya, htsx, htxs⟩

/-- Settles O14: each counts one register, up by one or down by one. -/
theorem registerCountsWrap : Obligations.RegisterCountsWrap := by
  unfold Obligations.RegisterCountsWrap
  have hinx := oneByte_of_countReg (i := .inx) (r := .x) (f := (· + 1)) rfl (fun _ => rfl) rfl fun _ => rfl
  have hiny := oneByte_of_countReg (i := .iny) (r := .y) (f := (· + 1)) rfl (fun _ => rfl) rfl fun _ => rfl
  have hdex := oneByte_of_countReg (i := .dex) (r := .x) (f := (· - 1)) rfl (fun _ => rfl) rfl add_ff_eq_sub_one
  have hdey := oneByte_of_countReg (i := .dey) (r := .y) (f := (· - 1)) rfl (fun _ => rfl) rfl add_ff_eq_sub_one
  exact ⟨hinx, hiny, hdex, hdey⟩

end Sys2Proof.Machine

/-! # Flag control and the stack instructions

What the claims write out is tied to the model's own operations first: `nz` to `setNZ`, a one-cell `stored` to
`State.poke`, `statusByte` to `pByte`. An instruction is then its push or pull and the advance. -/

namespace Sys2Proof.Machine

open Sys2Proof.Claims

theorem nz_eq_setNZ (v : Byte) (p : Flags) : nz v p = setNZ v p := rfl

theorem stackByte_eq_stackAddr (sp : Byte) : stackByte sp = stackAddr sp := rfl

theorem stored_singleton (s : State) (a : Word) (v : Byte) : stored s [(a, v)] = s.poke a v :=
  (State.poke_eq s a v).symm

/-! The byte that PHP pushes (`10_state.md` R16): each bit appended doubles the number before it. -/

theorem one_eq_toNat (b : Bool) : one b = b.toNat := by cases b <;> rfl

theorem toNat_append_ofBool {w : Nat} (x : BitVec w) (b : Bool) :
    (x ++ BitVec.ofBool b).toNat = 2 * x.toNat + one b := by
  have h : (x ++ BitVec.ofBool b).toNat = x.toNat * 2 + b.toNat := BitVec.toNat_concat x b
  rw [h, one_eq_toNat, mul_comm]

theorem toNat_pByte (b : Bool) (p : Flags) : (pByte b p).toNat =
    128 * one p.n + 64 * one p.v + 32 + 16 * one b + 8 * one p.d + 4 * one p.i + 2 * one p.z + one p.c := by
  have hbit5 : (1#1 : BitVec 1) = BitVec.ofBool true := rfl
  have hset : one true = 1 := rfl
  rw [pByte, hbit5]
  simp only [toNat_append_ofBool, BitVec.toNat_ofBool, ← one_eq_toNat, hset]
  omega

theorem pByte_eq_statusByte (b : Bool) (p : Flags) : pByte b p = statusByte b p := by
  rw [statusByte, ← toNat_pByte, BitVec.ofNat_toNat, BitVec.setWidth_eq]

/-- `f` is the one flag written. -/
theorem oneByte_of_writeFlags {i : Instr} {f : Flags → Flags} (ho : i.operand = .none)
    (hc : ∀ p, cycleRule p i = .fixed 2) (hx : ∀ s, exec i s = writeFlags (f s.p) s) :
    OneByte i.opcode i 2 fun s => { s with p := f s.p } :=
  oneByte_of_advance ho hc (fun _ => rfl) hx

/-- Settles O15: each writes `P` with its one flag replaced. -/
theorem flagInstructionsWriteOneFlag : Obligations.FlagInstructionsWriteOneFlag := by
  unfold Obligations.FlagInstructionsWriteOneFlag
  have hclc := oneByte_of_writeFlags (i := .clc) (f := ({ · with c := false })) rfl (fun _ => rfl) fun _ => rfl
  have hsec := oneByte_of_writeFlags (i := .sec) (f := ({ · with c := true })) rfl (fun _ => rfl) fun _ => rfl
  have hcld := oneByte_of_writeFlags (i := .cld) (f := ({ · with d := false })) rfl (fun _ => rfl) fun _ => rfl
  have hsed := oneByte_of_writeFlags (i := .sed) (f := ({ · with d := true })) rfl (fun _ => rfl) fun _ => rfl
  have hcli := oneByte_of_writeFlags (i := .cli) (f := ({ · with i := false })) rfl (fun _ => rfl) fun _ => rfl
  have hsei := oneByte_of_writeFlags (i := .sei) (f := ({ · with i := true })) rfl (fun _ => rfl) fun _ => rfl
  have hclv := oneByte_of_writeFlags (i := .clv) (f := ({ · with v := false })) rfl (fun _ => rfl) fun _ => rfl
  exact ⟨hclc, hsec, hcld, hsed, hcli, hsei, hclv⟩

section
variable {s : State}

/-- PHA and PHP complete where `$01 : S` is no device. -/
theorem push_advance_eq (h : s.kindAt (stackByte s.sp) ≠ .device) (v : Byte) (len : Word) :
    push v s (fun s1 => .next (s1.advance len)) =
      .next { s with mem := stored s [(stackByte s.sp, v)], sp := s.sp - 1, pc := s.pc + len } := by
  rw [push_eq h, stored_singleton, stackByte_eq_stackAddr]
  rfl

theorem execPha_eq (h : s.kindAt (stackByte s.sp) ≠ .device) :
    execPha s = .next { s with mem := stored s [(stackByte s.sp, s.a)], sp := s.sp - 1, pc := s.pc + 1 } :=
  push_advance_eq h s.a 1

theorem execPhp_eq (h : s.kindAt (stackByte s.sp) ≠ .device) :
    execPhp s =
      .next { s with mem := stored s [(stackByte s.sp, statusByte true s.p)], sp := s.sp - 1, pc := s.pc + 1 } := by
  rw [← pByte_eq_statusByte]
  exact push_advance_eq h (pByte true s.p) 1

theorem execPla_plain (h : s.Plain (stackByte (s.sp + 1))) :
    execPla s = .next { s with
      a := s.peek (stackByte (s.sp + 1)), p := nz (s.peek (stackByte (s.sp + 1))) s.p
      sp := s.sp + 1, pc := s.pc + 1 } := by
  rw [execPla, pull_plain h, nz_eq_setNZ]
  rfl

theorem execPlp_plain (h : s.Plain (stackByte (s.sp + 1))) :
    execPlp s = .next { s with
      p := flagsOfByte (s.peek (stackByte (s.sp + 1))), sp := s.sp + 1, pc := s.pc + 1 } := by
  rw [execPlp, pull_plain h]
  rfl

end

/-- Settles O16: a push and a pull each with its advance. -/
theorem stackInstructionsPushAndPull : Obligations.StackInstructionsPushAndPull := by
  unfold Obligations.StackInstructionsPushAndPull
  refine ⟨⟨decodes_opcode (i := .pha) rfl, ?pha⟩, ⟨decodes_opcode (i := .php) rfl, ?php⟩,
    ⟨decodes_opcode (i := .pla) rfl, ?pla⟩, ⟨decodes_opcode (i := .plp) rfl, ?plp⟩⟩
  case pha => exact fun s h => ⟨execPha_eq h, cycles_of_fixed rfl⟩
  case php => exact fun s h => ⟨execPhp_eq h, cycles_of_fixed rfl⟩
  case pla => exact fun s h => ⟨execPla_plain h, cycles_of_fixed rfl⟩
  case plp => exact fun s h => ⟨execPlp_plain h, cycles_of_fixed rfl⟩

end Sys2Proof.Machine

/-! # Shifts, rotates and the instructions that change a byte of memory

The four shifts come down to the two rotates, ASL and LSR being a rotate with 0 brought in; what the claims write as
arithmetic on the byte is tied to those once. An instruction that changes a byte of memory is a row of the opcode table
in each of four modes, and the rows of one instruction run the same operation at the address of the mode. -/

namespace Sys2Proof.Machine

open Sys2Proof.Claims

/-! The bits of `43_shift_rotate.md` R112 to R115 as arithmetic. -/

theorem one_le (b : Bool) : one b ≤ 1 := by cases b <;> decide

theorem toNat_ofBool_append {w : Nat} (b : Bool) (x : BitVec w) :
    (BitVec.ofBool b ++ x).toNat = 2 ^ w * one b + x.toNat := by
  have h : (BitVec.ofBool b ++ x).toNat = (b.toNat <<< w) + x.toNat := BitVec.toNat_cons'
  rw [h, Nat.shiftLeft_eq, ← one_eq_toNat, mul_comm]

theorem getLsbD_seven (m : Byte) : m.getLsbD 7 = decide (128 ≤ m.toNat) :=
  m.msb_eq_getLsbD_last.symm.trans m.msb_eq_decide

theorem getLsbD_zero_eq_odd (m : Byte) : m.getLsbD 0 = decide (m.toNat % 2 = 1) := Nat.testBit_zero m.toNat

theorem toNat_rolOp (m : Byte) (c : Bool) : (rolOp m c).1.toNat = 2 * (m.toNat % 128) + one c := by
  simp [rolOp, toNat_append_ofBool]

theorem toNat_rorOp (m : Byte) (c : Bool) : (rorOp m c).1.toNat = m.toNat / 2 + 128 * one c := by
  have hcat : (rorOp m c).1.toNat = 128 * one c + (m.extractLsb' 1 7).toNat := toNat_ofBool_append c _
  have hm := m.isLt
  rw [hcat, BitVec.extractLsb'_toNat, Nat.shiftRight_eq_div_pow]
  omega

theorem rolOp_eq (m : Byte) (c : Bool) :
    rolOp m c = (BitVec.ofNat 8 (2 * m.toNat + one c), decide (128 ≤ m.toNat)) := by
  refine Prod.ext (BitVec.eq_of_toNat_eq ?_) (getLsbD_seven m)
  have hc := one_le c
  rw [toNat_rolOp, BitVec.toNat_ofNat]
  omega

theorem rorOp_eq (m : Byte) (c : Bool) :
    rorOp m c = (BitVec.ofNat 8 (m.toNat / 2 + 128 * one c), decide (m.toNat % 2 = 1)) := by
  refine Prod.ext (BitVec.eq_of_toNat_eq ?_) (getLsbD_zero_eq_odd m)
  have hc := one_le c
  have hm := m.isLt
  rw [toNat_rorOp, BitVec.toNat_ofNat]
  omega

theorem aslOp_eq_rolOp (m : Byte) (c : Bool) : aslOp m c = rolOp m false := rfl

theorem lsrOp_eq_rorOp (m : Byte) (c : Bool) : lsrOp m c = rorOp m false := rfl

/-- The claim's `f` is the model's `op`: the byte, the bit for `C`, and the flags of R116. -/
def Describes (f : Byte → Flags → Byte × Flags) (op : Byte → Bool → Byte × Bool) : Prop :=
  ∀ m p, f m p = ((op m p.c).1, shiftFlags (op m p.c).1 (op m p.c).2 p)

theorem describes_rol : Describes rol rolOp := by
  intro m p
  rw [rolOp_eq]
  rfl

theorem describes_ror : Describes ror rorOp := by
  intro m p
  rw [rorOp_eq]
  rfl

theorem describes_asl : Describes asl aslOp := by
  intro m p
  rw [aslOp_eq_rolOp, rolOp_eq]
  rfl

theorem describes_lsr : Describes lsr lsrOp := by
  intro m p
  rw [lsrOp_eq_rorOp, rorOp_eq]
  rfl

/-! The rotates as a rotation of nine bits: bit `i` after is a fixed bit before. -/

/-- `C` and the byte as one value of nine bits, `C` on top. -/
def withCarry (q : Byte × Bool) : BitVec 9 := BitVec.ofBool q.2 ++ q.1

theorem toNat_withCarry (q : Byte × Bool) : (withCarry q).toNat = 256 * one q.2 + q.1.toNat :=
  toNat_ofBool_append q.2 q.1

theorem one_injective : Function.Injective one := by decide

theorem withCarry_injective : Function.Injective withCarry := by
  intro q r h
  have hn : 256 * one q.2 + q.1.toNat = 256 * one r.2 + r.1.toNat := by
    simpa [toNat_withCarry] using congrArg (·.toNat) h
  have hq := q.1.isLt
  have hr := r.1.isLt
  exact Prod.ext (BitVec.eq_of_toNat_eq (by omega)) (one_injective (by omega))

theorem getLsbD_withCarry (q : Byte × Bool) (i : Nat) :
    (withCarry q).getLsbD i = if i = 8 then q.2 else q.1.getLsbD i := BitVec.getLsbD_cons q.2 q.1 i

theorem getLsbD_rolOp (m : Byte) (c : Bool) {i : Nat} (hi : i < 8) :
    (rolOp m c).1.getLsbD i = if i = 0 then c else m.getLsbD (i - 1) := by
  have hcat : (rolOp m c).1.getLsbD i = if i = 0 then c else (m.extractLsb' 0 7).getLsbD (i - 1) :=
    BitVec.getLsbD_concat _ c i
  have h7 : i - 1 < 7 := by omega
  rw [hcat, BitVec.getLsbD_extractLsb', decide_eq_true h7, Bool.true_and, Nat.zero_add]

theorem getLsbD_rorOp (m : Byte) (c : Bool) {i : Nat} (hi : i < 8) :
    (rorOp m c).1.getLsbD i = if i = 7 then c else m.getLsbD (i + 1) := by
  have hcat : (rorOp m c).1.getLsbD i = if i = 7 then c else (m.extractLsb' 1 7).getLsbD i :=
    BitVec.getLsbD_cons c _ i
  rw [hcat]
  split
  · rfl
  · have h7 : i < 7 := by omega
    rw [BitVec.getLsbD_extractLsb', decide_eq_true h7, Bool.true_and, Nat.add_comm]

/-- ROL brings bit `i - 1` to bit `i`, and the top bit, `C`, to bit 0. -/
theorem getLsbD_withCarry_rolOp (q : Byte × Bool) {i : Nat} (hi : i < 9) :
    (withCarry (rolOp q.1 q.2)).getLsbD i = (withCarry q).getLsbD ((i + 8) % 9) := by
  simp only [getLsbD_withCarry]
  obtain rfl | rfl | ⟨h0, h8⟩ : i = 8 ∨ i = 0 ∨ 0 < i ∧ i < 8 := by omega
  · rfl
  · exact getLsbD_rolOp q.1 q.2 (by decide)
  · have hmod : (i + 8) % 9 = i - 1 := by omega
    rw [hmod, if_neg h8.ne, if_neg (by omega), getLsbD_rolOp _ _ h8, if_neg h0.ne']

/-- ROR brings bit `i + 1` to bit `i`, and bit 0 to the top, `C`. -/
theorem getLsbD_withCarry_rorOp (q : Byte × Bool) {i : Nat} (hi : i < 9) :
    (withCarry (rorOp q.1 q.2)).getLsbD i = (withCarry q).getLsbD ((i + 1) % 9) := by
  simp only [getLsbD_withCarry]
  obtain rfl | rfl | h7 : i = 8 ∨ i = 7 ∨ i < 7 := by omega
  · rfl
  · exact getLsbD_rorOp q.1 q.2 (by decide)
  · have hmod : (i + 1) % 9 = i + 1 := by omega
    rw [hmod, if_neg (by omega), if_neg (by omega), getLsbD_rorOp _ _ (by omega), if_neg h7.ne]

/-- `n` ROLs in a row, on the byte and `C`. -/
theorem getLsbD_withCarry_rolOps (q : Byte × Bool) (n : Nat) {i : Nat} (hi : i < 9) :
    (withCarry ((List.range n).foldl (fun q _ => rolOp q.1 q.2) q)).getLsbD i =
      (withCarry q).getLsbD ((i + 8 * n) % 9) := by
  induction n generalizing i with
  | zero => simp [Nat.mod_eq_of_lt hi]
  | succ n ih =>
    rw [List.range_succ, List.foldl_append, List.foldl_cons, List.foldl_nil, getLsbD_withCarry_rolOp _ hi,
      ih (Nat.mod_lt _ (by decide))]
    congr 1
    omega

theorem eq_of_getLsbD_withCarry {q r : Byte × Bool}
    (h : ∀ i, i < 9 → (withCarry q).getLsbD i = (withCarry r).getLsbD i) : q = r :=
  withCarry_injective (BitVec.eq_of_getLsbD_eq h)

/-- Settles O51: nine places of a rotation of nine bits are a full turn, and one place right undoes one place left. -/
theorem nineRotatesRestore : Obligations.NineRotatesRestore := by
  unfold Obligations.NineRotatesRestore
  intro m c
  refine ⟨eq_of_getLsbD_withCarry fun i hi => ?turn, eq_of_getLsbD_withCarry fun i hi => ?undo⟩
  case turn =>
    have hturn : (i + 8 * 9) % 9 = i := by omega
    rw [getLsbD_withCarry_rolOps _ _ hi, hturn]
  case undo =>
    have hundo : ((i + 1) % 9 + 8) % 9 = i := by omega
    rw [getLsbD_withCarry_rorOp _ hi, getLsbD_withCarry_rolOp (m, c) (Nat.mod_lt _ (by decide)), hundo]

/-! The instructions with an operand of one byte or one word, from their bytes. -/

theorem decodes_byteOperand {i : Instr} {d : Byte} (ho : i.operand = .byte d) : Decodes [i.opcode, d] i := by
  have hsel := selectedBy_operand i
  rw [ho] at hsel
  obtain ⟨mk, hf, hi⟩ := hsel
  simpa [Decodes, hi] using decode_two [] hf d

theorem decodes_wordOperand {i : Instr} {l h : Byte} (ho : i.operand = .word (wordOf h l)) :
    Decodes [i.opcode, l, h] i := by
  have hsel := selectedBy_operand i
  rw [ho] at hsel
  obtain ⟨mk, hf, hi⟩ := hsel
  simpa [Decodes, hi] using decode_three [] hf l h

/-- A row of the opcode table whose count of cycles is fixed: opcode, operand, cycles and meaning. -/
structure Row (i : Instr) (op : Byte) (o : Operand) (cyc : Nat) (x : State → Result) : Prop where
  opcode_eq : i.opcode = op
  operand_eq : i.operand = o
  cycleRule_eq : ∀ p, cycleRule p i = .fixed cyc
  exec_eq : ∀ s, exec i s = x s

namespace Row

variable {i : Instr} {op d l h : Byte} {cyc : Nat} {x : State → Result}

theorem decodes_byte (hr : Row i op (.byte d) cyc x) : Decodes [op, d] i := by
  rw [← hr.opcode_eq]
  exact decodes_byteOperand hr.operand_eq

theorem decodes_word (hr : Row i op (.word (wordOf h l)) cyc x) : Decodes [op, l, h] i := by
  rw [← hr.opcode_eq]
  exact decodes_wordOperand hr.operand_eq

theorem cycles_eq {o : Operand} (hr : Row i op o cyc x) (s : State) : cycles i s = .next cyc :=
  cycles_of_fixed (hr.cycleRule_eq s.p)

end Row

/-- The rows of an instruction that changes a byte of memory: in each of its modes (`40_addressing_modes.md` R74, R75,
R77, R78) the operation `m` with the length of the mode, at the address of the mode. -/
structure ModifyRows (m : Word → Word → State → Result) (zp zpX abs absX : Byte) (mzp mzpX : Byte → Instr)
    (mabs mabsX : Word → Instr) : Prop where
  zp : ∀ d, Row (mzp d) zp (.byte d) 5 fun s => m 2 (eaZp d) s
  zpX : ∀ d, Row (mzpX d) zpX (.byte d) 6 fun s => m 2 (eaZpX d s) s
  abs : ∀ w, Row (mabs w) abs (.word w) 6 fun s => m 3 w s
  absX : ∀ w, Row (mabsX w) absX (.word w) 7 fun s => m 3 (eaAbsX w s) s

theorem aslRows : ModifyRows (shiftMem aslOp) 0x06 0x16 0x0E 0x1E .aslZp .aslZpX .aslAbs .aslAbsX where
  zp _ := ⟨rfl, rfl, fun _ => rfl, fun _ => rfl⟩
  zpX _ := ⟨rfl, rfl, fun _ => rfl, fun _ => rfl⟩
  abs _ := ⟨rfl, rfl, fun _ => rfl, fun _ => rfl⟩
  absX _ := ⟨rfl, rfl, fun _ => rfl, fun _ => rfl⟩

theorem lsrRows : ModifyRows (shiftMem lsrOp) 0x46 0x56 0x4E 0x5E .lsrZp .lsrZpX .lsrAbs .lsrAbsX where
  zp _ := ⟨rfl, rfl, fun _ => rfl, fun _ => rfl⟩
  zpX _ := ⟨rfl, rfl, fun _ => rfl, fun _ => rfl⟩
  abs _ := ⟨rfl, rfl, fun _ => rfl, fun _ => rfl⟩
  absX _ := ⟨rfl, rfl, fun _ => rfl, fun _ => rfl⟩

theorem rolRows : ModifyRows (shiftMem rolOp) 0x26 0x36 0x2E 0x3E .rolZp .rolZpX .rolAbs .rolAbsX where
  zp _ := ⟨rfl, rfl, fun _ => rfl, fun _ => rfl⟩
  zpX _ := ⟨rfl, rfl, fun _ => rfl, fun _ => rfl⟩
  abs _ := ⟨rfl, rfl, fun _ => rfl, fun _ => rfl⟩
  absX _ := ⟨rfl, rfl, fun _ => rfl, fun _ => rfl⟩

theorem rorRows : ModifyRows (shiftMem rorOp) 0x66 0x76 0x6E 0x7E .rorZp .rorZpX .rorAbs .rorAbsX where
  zp _ := ⟨rfl, rfl, fun _ => rfl, fun _ => rfl⟩
  zpX _ := ⟨rfl, rfl, fun _ => rfl, fun _ => rfl⟩
  abs _ := ⟨rfl, rfl, fun _ => rfl, fun _ => rfl⟩
  absX _ := ⟨rfl, rfl, fun _ => rfl, fun _ => rfl⟩

theorem incRows : ModifyRows (countMem 0x01) 0xE6 0xF6 0xEE 0xFE .incZp .incZpX .incAbs .incAbsX where
  zp _ := ⟨rfl, rfl, fun _ => rfl, fun _ => rfl⟩
  zpX _ := ⟨rfl, rfl, fun _ => rfl, fun _ => rfl⟩
  abs _ := ⟨rfl, rfl, fun _ => rfl, fun _ => rfl⟩
  absX _ := ⟨rfl, rfl, fun _ => rfl, fun _ => rfl⟩

theorem decRows : ModifyRows (countMem 0xFF) 0xC6 0xD6 0xCE 0xDE .decZp .decZpX .decAbs .decAbsX where
  zp _ := ⟨rfl, rfl, fun _ => rfl, fun _ => rfl⟩
  zpX _ := ⟨rfl, rfl, fun _ => rfl, fun _ => rfl⟩
  abs _ := ⟨rfl, rfl, fun _ => rfl, fun _ => rfl⟩
  absX _ := ⟨rfl, rfl, fun _ => rfl, fun _ => rfl⟩

/-! What such an operation does where storage answers, and the claims of its forms. -/

theorem State.Plain.not_device {s : State} {a : Word} (h : s.Plain a) : s.kindAt a ≠ .device := by
  rcases h with h | h <;> simp [h]

/-- Where storage answers at the address, the operation writes the byte and the flags of `f` back. -/
def Modifies (m : Word → Word → State → Result) (f : Byte → Flags → Byte × Flags) : Prop :=
  ∀ (len ea : Word) (s : State), s.Plain ea →
    m len ea s = .next { s with
      mem := stored s [(ea, (f (s.peek ea) s.p).1)], p := (f (s.peek ea) s.p).2, pc := s.pc + len }

theorem modifies_shiftMem {op : Byte → Bool → Byte × Bool} {f : Byte → Flags → Byte × Flags} (hf : Describes f op) :
    Modifies (shiftMem op) f := by
  intro len ea s h
  rw [shiftMem, readByte_plain h, writeByte_eq h.not_device, stored_singleton, hf]
  rfl

theorem oneByte_of_shiftAcc {op : Byte → Bool → Byte × Bool} {f : Byte → Flags → Byte × Flags} {acc : Byte} {a : Instr}
    (ha : Row a acc .none 2 (shiftAcc op)) (hf : Describes f op) :
    OneByte acc a 2 fun s => { s with a := (f s.a s.p).1, p := (f s.a s.p).2 } := by
  rw [← ha.opcode_eq]
  refine oneByte_of_advance ha.operand_eq ha.cycleRule_eq (fun _ => rfl) fun s => ?_
  rw [ha.exec_eq, shiftAcc, hf]

namespace ModifyRows

variable {m : Word → Word → State → Result} {zp zpX abs absX : Byte} {mzp mzpX : Byte → Instr}
  {mabs mabsX : Word → Instr} {f : Byte → Flags → Byte × Flags}

theorem modZp (h : ModifyRows m zp zpX abs absX mzp mzpX mabs mabsX) (hm : Modifies m f) : ModZp zp mzp f :=
  fun d => ⟨(h.zp d).decodes_byte, fun s hs => ⟨((h.zp d).exec_eq s).trans (hm _ _ s hs), (h.zp d).cycles_eq s⟩⟩

theorem modZpX (h : ModifyRows m zp zpX abs absX mzp mzpX mabs mabsX) (hm : Modifies m f) : ModZpX zpX mzpX f :=
  fun d => ⟨(h.zpX d).decodes_byte, fun s hs => ⟨((h.zpX d).exec_eq s).trans (hm _ _ s hs), (h.zpX d).cycles_eq s⟩⟩

theorem modAbs (h : ModifyRows m zp zpX abs absX mzp mzpX mabs mabsX) (hm : Modifies m f) : ModAbs abs mabs f :=
  fun l u => ⟨(h.abs (wordOf u l)).decodes_word,
    fun s hs => ⟨((h.abs _).exec_eq s).trans (hm _ _ s hs), (h.abs _).cycles_eq s⟩⟩

theorem modAbsX (h : ModifyRows m zp zpX abs absX mzp mzpX mabs mabsX) (hm : Modifies m f) : ModAbsX absX mabsX f :=
  fun l u => ⟨(h.absX (wordOf u l)).decodes_word,
    fun s hs => ⟨((h.absX _).exec_eq s).trans (hm _ _ s hs), (h.absX _).cycles_eq s⟩⟩

/-- A shift or rotate: the accumulator form and the memory forms run one operation. -/
theorem shiftForms {op : Byte → Bool → Byte × Bool} {acc : Byte} {a : Instr}
    (h : ModifyRows (shiftMem op) zp zpX abs absX mzp mzpX mabs mabsX) (ha : Row a acc .none 2 (shiftAcc op))
    (hf : Describes f op) : ShiftForms acc zp zpX abs absX a mzp mzpX mabs mabsX f := by
  have hm := modifies_shiftMem hf
  exact ⟨oneByte_of_shiftAcc ha hf, h.modZp hm, h.modZpX hm, h.modAbs hm, h.modAbsX hm⟩

end ModifyRows

/-- Settles O17: the rows of ASL, whose operation doubles the byte. -/
theorem aslForms : Obligations.AslForms := by
  unfold Obligations.AslForms
  exact aslRows.shiftForms ⟨rfl, rfl, fun _ => rfl, fun _ => rfl⟩ describes_asl

/-- Settles O18: the rows of LSR, whose operation halves the byte. -/
theorem lsrForms : Obligations.LsrForms := by
  unfold Obligations.LsrForms
  exact lsrRows.shiftForms ⟨rfl, rfl, fun _ => rfl, fun _ => rfl⟩ describes_lsr

/-- Settles O19: the rows of ROL, whose operation doubles the byte and adds `C`. -/
theorem rolForms : Obligations.RolForms := by
  unfold Obligations.RolForms
  exact rolRows.shiftForms ⟨rfl, rfl, fun _ => rfl, fun _ => rfl⟩ describes_rol

/-- Settles O20: the rows of ROR, whose operation halves the byte and brings `C` in at the top. -/
theorem rorForms : Obligations.RorForms := by
  unfold Obligations.RorForms
  exact rorRows.shiftForms ⟨rfl, rfl, fun _ => rfl, fun _ => rfl⟩ describes_ror

/-! The frame of an instruction that changes a byte of memory. -/

/-- `t` differs from `s` in the byte at `ea`, in N, Z and C, in `pc` and in the count of free values. -/
def ChangesByteAt (ea : Word) (s t : State) : Prop :=
  (∃ len, WritesOnly { mem := true, nz := true, c := true } len s t) ∧ ∀ b, b ≠ ea → t.peek b = s.peek b

theorem changesByteAt_shiftMem (op : Byte → Bool → Byte × Bool) (len ea : Word) (s : State) :
    Keeps (ChangesByteAt ea s) (shiftMem op len ea s) := by
  intro t h
  obtain ⟨m, n, -, -, rfl⟩ := shiftMem_next h
  exact ⟨⟨len, rfl⟩, fun b hb => State.read_poke_other hb s _⟩

theorem changesByteAt_countMem (delta : Byte) (len ea : Word) (s : State) :
    Keeps (ChangesByteAt ea s) (countMem delta len ea s) := by
  intro t h
  obtain ⟨m, n, -, -, rfl⟩ := countMem_next h
  exact ⟨⟨len, rfl⟩, fun b hb => State.read_poke_other hb s _⟩

/-- The four forms of one instruction in `modifyForms`. -/
def formsOf (mzp mzpX : Byte → Instr) (mabs mabsX : Word → Instr) (d : Byte) (addr : Word) :
    List (Instr × (State → Word)) :=
  [(mzp d, fun _ => eaZp d), (mzpX d, eaZpX d), (mabs addr, fun _ => addr), (mabsX addr, eaAbsX addr)]

theorem modifyForms_eq (d : Byte) (addr : Word) : modifyForms d addr =
    formsOf .aslZp .aslZpX .aslAbs .aslAbsX d addr ++ formsOf .lsrZp .lsrZpX .lsrAbs .lsrAbsX d addr ++
    formsOf .rolZp .rolZpX .rolAbs .rolAbsX d addr ++ formsOf .rorZp .rorZpX .rorAbs .rorAbsX d addr ++
    formsOf .incZp .incZpX .incAbs .incAbsX d addr ++ formsOf .decZp .decZpX .decAbs .decAbsX d addr := rfl

section
variable {d : Byte} {addr : Word} {s : State} {f : Instr × (State → Word)}

theorem ModifyRows.changesByteAt {m : Word → Word → State → Result} {zp zpX abs absX : Byte}
    {mzp mzpX : Byte → Instr} {mabs mabsX : Word → Instr} (hr : ModifyRows m zp zpX abs absX mzp mzpX mabs mabsX)
    (hm : ∀ len ea s, Keeps (ChangesByteAt ea s) (m len ea s)) (hf : f ∈ formsOf mzp mzpX mabs mabsX d addr) :
    Keeps (ChangesByteAt (f.2 s) s) (exec f.1 s) := by
  simp only [formsOf, List.mem_cons, List.not_mem_nil, or_false] at hf
  obtain rfl | rfl | rfl | rfl := hf
  · exact (hr.zp d).exec_eq s ▸ hm 2 (eaZp d) s
  · exact (hr.zpX d).exec_eq s ▸ hm 2 (eaZpX d s) s
  · exact (hr.abs addr).exec_eq s ▸ hm 3 addr s
  · exact (hr.absX addr).exec_eq s ▸ hm 3 (eaAbsX addr s) s

theorem changesByteAt_of_mem_modifyForms (hf : f ∈ modifyForms d addr) :
    Keeps (ChangesByteAt (f.2 s) s) (exec f.1 s) := by
  simp only [modifyForms_eq, List.mem_append, or_assoc] at hf
  obtain hf | hf | hf | hf | hf | hf := hf
  · exact aslRows.changesByteAt (changesByteAt_shiftMem _) hf
  · exact lsrRows.changesByteAt (changesByteAt_shiftMem _) hf
  · exact rolRows.changesByteAt (changesByteAt_shiftMem _) hf
  · exact rorRows.changesByteAt (changesByteAt_shiftMem _) hf
  · exact incRows.changesByteAt (changesByteAt_countMem _) hf
  · exact decRows.changesByteAt (changesByteAt_countMem _) hf

end

theorem footprint_c_of_inc_dec {mode : Mode} {m : Mnemonic} (h : m ∈ [Mnemonic.inc, .dec]) :
    (footprint mode m).c = false := by
  simp only [List.mem_cons, List.not_mem_nil, or_false] at h
  obtain rfl | rfl := h <;> rfl

/-- Settles O55: every form changes the byte at the address of its mode, and C is in no footprint of INC and DEC. -/
theorem modifyFrames : Obligations.ModifyFrames := by
  unfold Obligations.ModifyFrames
  intro d addr s t f hf h
  obtain ⟨⟨len, hw⟩, hmem⟩ := changesByteAt_of_mem_modifyForms hf t h
  exact ⟨hw.a_eq rfl, hw.x_eq rfl, hw.y_eq rfl, hw.sp_eq rfl, hw.v_eq rfl, hw.i_eq rfl, hw.d_eq rfl,
    fun hc => (writesOnly_exec f.1 s t h).c_eq (footprint_c_of_inc_dec hc), hmem⟩

end Sys2Proof.Machine

/-! # Loads and stores

An instruction that reads an operand is a row of the opcode table in each of its modes, and what follows the read,
`fin`, says what the operand does. The modes are proved once, for every `fin`; a load then only names its own. An
indexed read takes a cycle more when it crosses a page. A store runs one operation at the address of its mode, which
its frame names as well: for the modes that read a pointer, because an access that goes on hands the same address to
whatever follows it. -/

namespace Sys2Proof.Machine

open Sys2Proof.Claims

/-! An access that goes on runs every continuation on one value and one state. -/

section
variable {α : Type} {s : State} {r : α}

theorem readByte_next_uniform {a : Word} {k : Byte → State → Answer α} (h : readByte a s k = .next r) :
    ∃ v n, ∀ {β : Type} (k' : Byte → State → Answer β), readByte a s k' = k' v { s with draws := n } := by
  cases hk : s.kindAt a with
  | ram => exact ⟨_, s.draws, readByte_plain (.inl hk)⟩
  | rom => exact ⟨_, s.draws, readByte_plain (.inr hk)⟩
  | absent => exact ⟨_, _, readByte_absent hk⟩
  | device => simp [readByte_device hk] at h

theorem readPair_next_uniform {la ha : Word} {k : Word → State → Answer α} (h : readPair la ha s k = .next r) :
    ∃ w n, ∀ {β : Type} (k' : Word → State → Answer β), readPair la ha s k' = k' w { s with draws := n } := by
  obtain ⟨l, n, hl⟩ := readByte_next_uniform h
  rw [readPair, hl] at h
  obtain ⟨u, m, hu⟩ := readByte_next_uniform h
  exact ⟨wordOf u l, m, fun k' => (hl _).trans (hu _)⟩

theorem withIndX_next_uniform {d : Byte} {k : Word → State → Answer α} (h : withIndX d s k = .next r) :
    ∃ ea n, ∀ {β : Type} (k' : Word → State → Answer β), withIndX d s k' = k' ea { s with draws := n } :=
  readPair_next_uniform h

theorem withIndY_next_uniform {d : Byte} {k : Word → State → Answer α} (h : withIndY d s k = .next r) :
    ∃ ea n, ∀ {β : Type} (k' : Word → State → Answer β), withIndY d s k' = k' ea { s with draws := n } := by
  rw [withIndY] at h
  obtain ⟨base, n, hbase⟩ := readPair_next_uniform h
  exact ⟨base + zext16 s.y, n, fun k' => hbase fun w s1 => k' (w + zext16 s1.y) s1⟩

end

/-! The frame of a store. -/

/-- An instruction of meaning `x` that completes has stored the register `r` at the address that `addr` answers, moved
`pc` on by `len` and changed nothing else but the count of free values. -/
def StoresTo (r : Reg) (len : Word) (x : State → Result) (addr : State → Answer Word) : Prop :=
  ∀ s t, x s = .next t →
    ∃ ea n, addr s = .next ea ∧ t = { s with mem := s.poke ea (s.reg r), pc := s.pc + len, draws := n }

section
variable (r : Reg) (len : Word)

theorem storesTo_storeReg (ea : State → Word) :
    StoresTo r len (fun s => storeReg r len (ea s) s) (fun s => .next (ea s)) := by
  intro s t h
  obtain ⟨-, rfl⟩ := storeReg_next h
  exact ⟨ea s, s.draws, rfl, rfl⟩

theorem storesTo_withIndX (d : Byte) :
    StoresTo r len (fun s => withIndX d s (storeReg r len)) (fun s => withIndX d s fun ea _ => .next ea) := by
  intro s t h
  obtain ⟨ea, n, hea⟩ := withIndX_next_uniform h
  obtain ⟨-, rfl⟩ := storeReg_next ((hea _).symm.trans h)
  exact ⟨ea, n, hea fun ea _ => .next ea, rfl⟩

theorem storesTo_withIndY (d : Byte) :
    StoresTo r len (fun s => withIndY d s (storeReg r len)) (fun s => withIndY d s fun ea _ => .next ea) := by
  intro s t h
  obtain ⟨ea, n, hea⟩ := withIndY_next_uniform h
  obtain ⟨-, rfl⟩ := storeReg_next ((hea _).symm.trans h)
  exact ⟨ea, n, hea fun ea _ => .next ea, rfl⟩

end

theorem storesTo_of_mem_storeForms {d : Byte} {addr : Word} {f : Instr × (State → Answer Word)}
    (hf : f ∈ storeForms d addr) : ∃ r len, StoresTo r len (exec f.1) f.2 := by
  simp only [storeForms, List.mem_cons, List.not_mem_nil, or_false] at hf
  obtain rfl | rfl | rfl | rfl | rfl | rfl | rfl | rfl | rfl | rfl | rfl | rfl | rfl := hf
  · exact ⟨.a, 2, storesTo_storeReg _ _ fun _ => eaZp d⟩
  · exact ⟨.a, 2, storesTo_storeReg _ _ (eaZpX d)⟩
  · exact ⟨.a, 3, storesTo_storeReg _ _ fun _ => addr⟩
  · exact ⟨.a, 3, storesTo_storeReg _ _ (eaAbsX addr)⟩
  · exact ⟨.a, 3, storesTo_storeReg _ _ (eaAbsY addr)⟩
  · exact ⟨.a, 2, storesTo_withIndX _ _ d⟩
  · exact ⟨.a, 2, storesTo_withIndY _ _ d⟩
  · exact ⟨.x, 2, storesTo_storeReg _ _ fun _ => eaZp d⟩
  · exact ⟨.x, 2, storesTo_storeReg _ _ (eaZpY d)⟩
  · exact ⟨.x, 3, storesTo_storeReg _ _ fun _ => addr⟩
  · exact ⟨.y, 2, storesTo_storeReg _ _ fun _ => eaZp d⟩
  · exact ⟨.y, 2, storesTo_storeReg _ _ (eaZpX d)⟩
  · exact ⟨.y, 3, storesTo_storeReg _ _ fun _ => addr⟩

/-- Settles O54: a store writes the byte at the address of its mode, and neither a register nor a flag. -/
theorem storeFrames : Obligations.StoreFrames := by
  unfold Obligations.StoreFrames
  intro d addr s t f hf h
  obtain ⟨r, len, hst⟩ := storesTo_of_mem_storeForms hf
  obtain ⟨ea, n, hea, rfl⟩ := hst s t h
  exact ⟨rfl, rfl, rfl, rfl, rfl, ea, hea, fun b hb => State.read_poke_other hb s _⟩

/-! The rows whose count of cycles grows when the index crosses a page (`70_reset_and_hazards.md` R187). -/

/-- A row of the opcode table with one cycle more on a page crossing: opcode, mode, operand, cycles and meaning. -/
structure PageRow (i : Instr) (op : Byte) (md : Mode) (o : Operand) (cyc : Nat) (x : State → Result) : Prop where
  opcode_eq : i.opcode = op
  mode_eq : i.mode = md
  operand_eq : i.operand = o
  cycleRule_eq : ∀ p, cycleRule p i = .plusPage cyc
  exec_eq : ∀ s, exec i s = x s

theorem bitNat_crossed (base ea : Word) : bitNat (crossed base ea) = crossing base ea := by
  simp [bitNat, crossed, crossing]

namespace PageRow

variable {i : Instr} {op d l h : Byte} {base : Word} {md : Mode} {o : Operand} {cyc : Nat} {x : State → Result}

theorem decodes_byte (hr : PageRow i op md (.byte d) cyc x) : Decodes [op, d] i := by
  rw [← hr.opcode_eq]
  exact decodes_byteOperand hr.operand_eq

theorem decodes_word (hr : PageRow i op md (.word (wordOf h l)) cyc x) : Decodes [op, l, h] i := by
  rw [← hr.opcode_eq]
  exact decodes_wordOperand hr.operand_eq

theorem cycles_of_pageCrossed {s : State} {ea : Word} (hr : PageRow i op md o cyc x)
    (hp : pageCrossed i s = .next (crossed base ea)) : cycles i s = .next (cyc + crossing base ea) := by
  rw [cycles, hr.cycleRule_eq]
  simp only [withPage, hp, bitNat_crossed]

theorem cycles_absoluteX (hr : PageRow i op .absoluteX (.word base) cyc x) (s : State) :
    cycles i s = .next (cyc + crossing base (eaAbsX base s)) :=
  hr.cycles_of_pageCrossed <| by rw [pageCrossed, hr.mode_eq, hr.operand_eq]

theorem cycles_absoluteY (hr : PageRow i op .absoluteY (.word base) cyc x) (s : State) :
    cycles i s = .next (cyc + crossing base (eaAbsY base s)) :=
  hr.cycles_of_pageCrossed <| by rw [pageCrossed, hr.mode_eq, hr.operand_eq]

theorem cycles_indirectIndexed {s : State} (hr : PageRow i op .indirectIndexed (.byte d) cyc x)
    (hl : s.Plain (wordOf 0 d)) (hh : s.Plain (wordOf 0 (d + 1))) :
    cycles i s = .next (cyc + crossing (zpPointer s d) (zpPointer s d + zext16 s.y)) :=
  hr.cycles_of_pageCrossed <| by
    simp only [pageCrossed, hr.mode_eq, hr.operand_eq, read16zp_plain hl hh, zpPointer]

end PageRow

/-! The instructions that read an operand, mode by mode. -/

/-- Where `pre` holds, what follows the read of the operand `m` has the effect `eff m` and moves `pc` on. -/
def Finishes (fin : Word → Byte → State → Result) (pre : State → Prop) (eff : Byte → State → State) : Prop :=
  ∀ (len : Word) (m : Byte) (s : State), pre s → fin len m s = .next { eff m s with pc := s.pc + len }

section
variable {fin : Word → Byte → State → Result} {pre : State → Prop} {eff : Byte → State → State} {op : Byte}

theorem Finishes.readByte_eq {s : State} {ea : Word} (hf : Finishes fin pre eff) (hp : pre s) (ha : s.Plain ea)
    (len : Word) : readByte ea s (fin len) = .next { eff (s.peek ea) s with pc := s.pc + len } :=
  (readByte_plain ha (fin len)).trans (hf len _ s hp)

/-- A row that reads its operand at the address `ea` and takes a fixed count of cycles. -/
theorem Row.reads {i : Instr} {o : Operand} {cyc : Nat} {len : Word} {ea : State → Word} {s : State}
    (hr : Row i op o cyc fun s => readByte (ea s) s (fin len)) (hf : Finishes fin pre eff) (hp : pre s)
    (ha : s.Plain (ea s)) :
    exec i s = .next { eff (s.peek (ea s)) s with pc := s.pc + len } ∧ cycles i s = .next cyc :=
  ⟨(hr.exec_eq s).trans (hf.readByte_eq hp ha len), hr.cycles_eq s⟩

theorem readImm_of_row {mk : Byte → Instr} (hr : ∀ d, Row (mk d) op (.byte d) 2 (fin 2 d))
    (hf : Finishes fin pre eff) : ReadImm op mk pre eff :=
  fun d => ⟨(hr d).decodes_byte, fun s hp => ⟨((hr d).exec_eq s).trans (hf 2 d s hp), (hr d).cycles_eq s⟩⟩

theorem readZp_of_row {mk : Byte → Instr}
    (hr : ∀ d, Row (mk d) op (.byte d) 3 fun s => readByte (eaZp d) s (fin 2))
    (hf : Finishes fin pre eff) : ReadZp op mk pre eff :=
  fun d => ⟨(hr d).decodes_byte, fun _ hp ha => (hr d).reads hf hp ha⟩

theorem readZpX_of_row {mk : Byte → Instr}
    (hr : ∀ d, Row (mk d) op (.byte d) 4 fun s => readByte (eaZpX d s) s (fin 2))
    (hf : Finishes fin pre eff) : ReadZpX op mk pre eff :=
  fun d => ⟨(hr d).decodes_byte, fun _ hp ha => (hr d).reads hf hp ha⟩

theorem readZpY_of_row {mk : Byte → Instr}
    (hr : ∀ d, Row (mk d) op (.byte d) 4 fun s => readByte (eaZpY d s) s (fin 2))
    (hf : Finishes fin pre eff) : ReadZpY op mk pre eff :=
  fun d => ⟨(hr d).decodes_byte, fun _ hp ha => (hr d).reads hf hp ha⟩

theorem readAbs_of_row {mk : Word → Instr}
    (hr : ∀ w, Row (mk w) op (.word w) 4 fun s => readByte w s (fin 3))
    (hf : Finishes fin pre eff) : ReadAbs op mk pre eff :=
  fun l h => ⟨(hr (wordOf h l)).decodes_word, fun _ hp ha => (hr _).reads hf hp ha⟩

theorem readAbsX_of_row {mk : Word → Instr}
    (hr : ∀ w, PageRow (mk w) op .absoluteX (.word w) 4 fun s => readByte (eaAbsX w s) s (fin 3))
    (hf : Finishes fin pre eff) : ReadAbsX op mk pre eff :=
  fun l h => ⟨(hr (wordOf h l)).decodes_word,
    fun s hp ha => ⟨((hr _).exec_eq s).trans (hf.readByte_eq hp ha 3), (hr _).cycles_absoluteX s⟩⟩

theorem readAbsY_of_row {mk : Word → Instr}
    (hr : ∀ w, PageRow (mk w) op .absoluteY (.word w) 4 fun s => readByte (eaAbsY w s) s (fin 3))
    (hf : Finishes fin pre eff) : ReadAbsY op mk pre eff :=
  fun l h => ⟨(hr (wordOf h l)).decodes_word,
    fun s hp ha => ⟨((hr _).exec_eq s).trans (hf.readByte_eq hp ha 3), (hr _).cycles_absoluteY s⟩⟩

theorem readIndX_of_row {mk : Byte → Instr}
    (hr : ∀ d, Row (mk d) op (.byte d) 6 fun s => withIndX d s fun ea s1 => readByte ea s1 (fin 2))
    (hf : Finishes fin pre eff) : ReadIndX op mk pre eff := by
  refine fun d => ⟨(hr d).decodes_byte, fun s hp hl hh ha => ⟨?_, (hr d).cycles_eq s⟩⟩
  rw [(hr d).exec_eq, withIndX_plain hl hh]
  exact hf.readByte_eq hp ha 2

theorem readIndY_of_row {mk : Byte → Instr}
    (hr : ∀ d, PageRow (mk d) op .indirectIndexed (.byte d) 5
      fun s => withIndY d s fun ea s1 => readByte ea s1 (fin 2))
    (hf : Finishes fin pre eff) : ReadIndY op mk pre eff := by
  refine fun d => ⟨(hr d).decodes_byte, fun s hp hl hh ha => ⟨?_, (hr d).cycles_indirectIndexed hl hh⟩⟩
  rw [(hr d).exec_eq, withIndY_plain hl hh]
  exact hf.readByte_eq hp ha 2

end

/-! The loads. -/

/-- A load writes its register and SetNZ of the operand, and never stops (`44_load_store.md` R123). -/
theorem finishes_finishLoad (r : Reg) : Finishes (finishLoad r) always fun m s => s.loadReg r m := by
  intro len m s _
  rw [finishLoad, State.advance_eq_of_pc (s.loadReg_pc r m)]

/-- Settles O21: the eight rows of LDA, which end in one load of `A`. -/
theorem ldaForms : Obligations.LdaForms := by
  unfold Obligations.LdaForms
  have hf := finishes_finishLoad .a
  refine ⟨readImm_of_row (fun _ => ?imm) hf, readZp_of_row (fun _ => ?zp) hf, readZpX_of_row (fun _ => ?zpX) hf,
    readAbs_of_row (fun _ => ?abs) hf, readAbsX_of_row (fun _ => ?absX) hf, readAbsY_of_row (fun _ => ?absY) hf,
    readIndX_of_row (fun _ => ?indX) hf, readIndY_of_row (fun _ => ?indY) hf⟩
  case imm | zp | zpX | abs | indX => exact ⟨rfl, rfl, fun _ => rfl, fun _ => rfl⟩
  case absX | absY | indY => exact ⟨rfl, rfl, rfl, fun _ => rfl, fun _ => rfl⟩

/-- Settles O22: the five rows of LDX, indexed by `Y`, and the five of LDY, indexed by `X`. -/
theorem ldxLdyForms : Obligations.LdxLdyForms := by
  unfold Obligations.LdxLdyForms
  have hx := finishes_finishLoad .x
  have hy := finishes_finishLoad .y
  refine ⟨readImm_of_row (fun _ => ?xImm) hx, readZp_of_row (fun _ => ?xZp) hx, readZpY_of_row (fun _ => ?xZpY) hx,
    readAbs_of_row (fun _ => ?xAbs) hx, readAbsY_of_row (fun _ => ?xAbsY) hx,
    readImm_of_row (fun _ => ?yImm) hy, readZp_of_row (fun _ => ?yZp) hy, readZpX_of_row (fun _ => ?yZpX) hy,
    readAbs_of_row (fun _ => ?yAbs) hy, readAbsX_of_row (fun _ => ?yAbsX) hy⟩
  case xImm | xZp | xZpY | xAbs | yImm | yZp | yZpX | yAbs => exact ⟨rfl, rfl, fun _ => rfl, fun _ => rfl⟩
  case xAbsY | yAbsX => exact ⟨rfl, rfl, rfl, fun _ => rfl, fun _ => rfl⟩

/-! The stores, mode by mode. -/

/-- A store completes where the map has no device at its address, whatever else stands there. -/
theorem storeReg_eq_stored {s : State} {ea : Word} (h : s.kindAt ea ≠ .device) (r : Reg) (len : Word) :
    storeReg r len ea s = .next { s with mem := stored s [(ea, s.reg r)], pc := s.pc + len } := by
  rw [stored_singleton]
  exact storeReg_eq h

section
variable {r : Reg} {op : Byte}

/-- A row that stores `r` at the address `ea`. -/
theorem Row.stores {i : Instr} {o : Operand} {cyc : Nat} {len : Word} {ea : State → Word} {s : State}
    (hr : Row i op o cyc fun s => storeReg r len (ea s) s) (hd : s.kindAt (ea s) ≠ .device) :
    exec i s = .next { s with mem := stored s [(ea s, s.reg r)], pc := s.pc + len } ∧ cycles i s = .next cyc :=
  ⟨(hr.exec_eq s).trans (storeReg_eq_stored hd r len), hr.cycles_eq s⟩

theorem storeZp_of_row {mk : Byte → Instr} (hr : ∀ d, Row (mk d) op (.byte d) 3 fun s => storeReg r 2 (eaZp d) s) :
    StoreZp op mk (State.reg · r) :=
  fun d => ⟨(hr d).decodes_byte, fun _ hd => (hr d).stores hd⟩

theorem storeZpX_of_row {mk : Byte → Instr}
    (hr : ∀ d, Row (mk d) op (.byte d) 4 fun s => storeReg r 2 (eaZpX d s) s) : StoreZpX op mk (State.reg · r) :=
  fun d => ⟨(hr d).decodes_byte, fun _ hd => (hr d).stores hd⟩

theorem storeZpY_of_row {mk : Byte → Instr}
    (hr : ∀ d, Row (mk d) op (.byte d) 4 fun s => storeReg r 2 (eaZpY d s) s) : StoreZpY op mk (State.reg · r) :=
  fun d => ⟨(hr d).decodes_byte, fun _ hd => (hr d).stores hd⟩

theorem storeAbs_of_row {mk : Word → Instr} (hr : ∀ w, Row (mk w) op (.word w) 4 fun s => storeReg r 3 w s) :
    StoreAbs op mk (State.reg · r) :=
  fun l h => ⟨(hr (wordOf h l)).decodes_word, fun _ hd => (hr _).stores hd⟩

theorem storeAbsX_of_row {mk : Word → Instr}
    (hr : ∀ w, Row (mk w) op (.word w) 5 fun s => storeReg r 3 (eaAbsX w s) s) : StoreAbsX op mk (State.reg · r) :=
  fun l h => ⟨(hr (wordOf h l)).decodes_word, fun _ hd => (hr _).stores hd⟩

theorem storeAbsY_of_row {mk : Word → Instr}
    (hr : ∀ w, Row (mk w) op (.word w) 5 fun s => storeReg r 3 (eaAbsY w s) s) : StoreAbsY op mk (State.reg · r) :=
  fun l h => ⟨(hr (wordOf h l)).decodes_word, fun _ hd => (hr _).stores hd⟩

theorem storeIndX_of_row {mk : Byte → Instr}
    (hr : ∀ d, Row (mk d) op (.byte d) 6 fun s => withIndX d s (storeReg r 2)) : StoreIndX op mk (State.reg · r) := by
  refine fun d => ⟨(hr d).decodes_byte, fun s hl hh hd => ⟨?_, (hr d).cycles_eq s⟩⟩
  rw [(hr d).exec_eq, withIndX_plain hl hh]
  exact storeReg_eq_stored hd r 2

theorem storeIndY_of_row {mk : Byte → Instr}
    (hr : ∀ d, Row (mk d) op (.byte d) 6 fun s => withIndY d s (storeReg r 2)) : StoreIndY op mk (State.reg · r) := by
  refine fun d => ⟨(hr d).decodes_byte, fun s hl hh hd => ⟨?_, (hr d).cycles_eq s⟩⟩
  rw [(hr d).exec_eq, withIndY_plain hl hh]
  exact storeReg_eq_stored hd r 2

end

/-- Settles O23: the seven rows of STA, the three of STX and the three of STY, each with a fixed count of cycles. -/
theorem storeForms : Obligations.StoreForms := by
  unfold Obligations.StoreForms
  refine ⟨storeZp_of_row (r := .a) fun _ => ?_, storeZpX_of_row (r := .a) fun _ => ?_,
    storeAbs_of_row (r := .a) fun _ => ?_, storeAbsX_of_row (r := .a) fun _ => ?_,
    storeAbsY_of_row (r := .a) fun _ => ?_, storeIndX_of_row (r := .a) fun _ => ?_,
    storeIndY_of_row (r := .a) fun _ => ?_,
    storeZp_of_row (r := .x) fun _ => ?_, storeZpY_of_row (r := .x) fun _ => ?_,
    storeAbs_of_row (r := .x) fun _ => ?_,
    storeZp_of_row (r := .y) fun _ => ?_, storeZpX_of_row (r := .y) fun _ => ?_,
    storeAbs_of_row (r := .y) fun _ => ?_⟩
  all_goals exact ⟨rfl, rfl, fun _ => rfl, fun _ => rfl⟩

end Sys2Proof.Machine

/-! # Arithmetic, logic, compare and bit test

ADC, SBC, AND, ORA, EOR and CMP are one row in each of the eight modes that read an operand, so their forms follow from
the rows and from what the instruction does with its operand. What the claims write as arithmetic is tied to the model's
flag computations once; with `D = 0`, SBC is ADC of the complement, and takes its facts from there. -/

namespace Sys2Proof.Machine

open Sys2Proof.Claims

/-! The instructions with all eight modes. -/

/-- The constructors of an instruction in each of the modes that read an operand. -/
structure ReadFamily where
  imm : Byte → Instr
  zp : Byte → Instr
  zpX : Byte → Instr
  abs : Word → Instr
  absX : Word → Instr
  absY : Word → Instr
  indX : Byte → Instr
  indY : Byte → Instr

/-- The eight rows of such an instruction, of group "a" (`30_encoding.md` R53): bits 2 to 4 of the opcode are the mode,
and in each mode `fin` is what follows the read of the operand. -/
structure ReadRows (fin : Word → Byte → State → Result) (base : Byte) (f : ReadFamily) : Prop where
  indX : ∀ d, Row (f.indX d) base (.byte d) 6 fun s => withIndX d s fun ea s1 => readByte ea s1 (fin 2)
  zp : ∀ d, Row (f.zp d) (base + 0x04) (.byte d) 3 fun s => readByte (eaZp d) s (fin 2)
  imm : ∀ d, Row (f.imm d) (base + 0x08) (.byte d) 2 (fin 2 d)
  abs : ∀ w, Row (f.abs w) (base + 0x0C) (.word w) 4 fun s => readByte w s (fin 3)
  indY : ∀ d, PageRow (f.indY d) (base + 0x10) .indirectIndexed (.byte d) 5
    fun s => withIndY d s fun ea s1 => readByte ea s1 (fin 2)
  zpX : ∀ d, Row (f.zpX d) (base + 0x14) (.byte d) 4 fun s => readByte (eaZpX d s) s (fin 2)
  absY : ∀ w, PageRow (f.absY w) (base + 0x18) .absoluteY (.word w) 4 fun s => readByte (eaAbsY w s) s (fin 3)
  absX : ∀ w, PageRow (f.absX w) (base + 0x1C) .absoluteX (.word w) 4 fun s => readByte (eaAbsX w s) s (fin 3)

/-- The claims of the eight forms, in the order the statements list them. -/
def ReadForms (base : Byte) (f : ReadFamily) (pre : State → Prop) (eff : Byte → State → State) : Prop :=
  ReadImm (base + 0x08) f.imm pre eff ∧ ReadZp (base + 0x04) f.zp pre eff ∧ ReadZpX (base + 0x14) f.zpX pre eff ∧
  ReadAbs (base + 0x0C) f.abs pre eff ∧ ReadAbsX (base + 0x1C) f.absX pre eff ∧ ReadAbsY (base + 0x18) f.absY pre eff ∧
  ReadIndX base f.indX pre eff ∧ ReadIndY (base + 0x10) f.indY pre eff

section
variable {fin : Word → Byte → State → Result} {base : Byte} {f : ReadFamily} {pre : State → Prop}
  {eff : Byte → State → State}

theorem ReadRows.forms (h : ReadRows fin base f) (hf : Finishes fin pre eff) : ReadForms base f pre eff :=
  ⟨readImm_of_row h.imm hf, readZp_of_row h.zp hf, readZpX_of_row h.zpX hf, readAbs_of_row h.abs hf,
    readAbsX_of_row h.absX hf, readAbsY_of_row h.absY hf, readIndX_of_row h.indX hf, readIndY_of_row h.indY hf⟩

/-- The claims of the eight forms at the head of a longer list of claims. -/
theorem ReadForms.append (h : ReadForms base f pre eff) {rest : Prop} (hrest : rest) :
    ReadImm (base + 0x08) f.imm pre eff ∧ ReadZp (base + 0x04) f.zp pre eff ∧ ReadZpX (base + 0x14) f.zpX pre eff ∧
    ReadAbs (base + 0x0C) f.abs pre eff ∧ ReadAbsX (base + 0x1C) f.absX pre eff ∧
    ReadAbsY (base + 0x18) f.absY pre eff ∧ ReadIndX base f.indX pre eff ∧ ReadIndY (base + 0x10) f.indY pre eff ∧
    rest := by
  simpa only [ReadForms, and_assoc] using And.intro h hrest

end

/-! Opcode, operand, cycles and meaning of each row are what the model's own tables compute to. -/

theorem adcRows : ReadRows finishAdc 0x61
    ⟨.adcImm, .adcZp, .adcZpX, .adcAbs, .adcAbsX, .adcAbsY, .adcIndX, .adcIndY⟩ := by
  constructor <;> intro <;> constructor <;> intros <;> rfl

theorem sbcRows : ReadRows finishSbc 0xE1
    ⟨.sbcImm, .sbcZp, .sbcZpX, .sbcAbs, .sbcAbsX, .sbcAbsY, .sbcIndX, .sbcIndY⟩ := by
  constructor <;> intro <;> constructor <;> intros <;> rfl

theorem andRows : ReadRows finishAnd 0x21
    ⟨.andImm, .andZp, .andZpX, .andAbs, .andAbsX, .andAbsY, .andIndX, .andIndY⟩ := by
  constructor <;> intro <;> constructor <;> intros <;> rfl

theorem oraRows : ReadRows finishOra 0x01
    ⟨.oraImm, .oraZp, .oraZpX, .oraAbs, .oraAbsX, .oraAbsY, .oraIndX, .oraIndY⟩ := by
  constructor <;> intro <;> constructor <;> intros <;> rfl

theorem eorRows : ReadRows finishEor 0x41
    ⟨.eorImm, .eorZp, .eorZpX, .eorAbs, .eorAbsX, .eorAbsY, .eorIndX, .eorIndY⟩ := by
  constructor <;> intro <;> constructor <;> intros <;> rfl

theorem cmpRows : ReadRows (finishCompare .a) 0xC1
    ⟨.cmpImm, .cmpZp, .cmpZpX, .cmpAbs, .cmpAbsX, .cmpAbsY, .cmpIndX, .cmpIndY⟩ := by
  constructor <;> intro <;> constructor <;> intros <;> rfl

/-! Logic, compare and bit test. -/

theorem finishes_finishAnd : Finishes finishAnd always fun m s => { s with a := s.a &&& m, p := nz (s.a &&& m) s.p } :=
  fun _ _ _ _ => rfl

theorem finishes_finishOra : Finishes finishOra always fun m s => { s with a := s.a ||| m, p := nz (s.a ||| m) s.p } :=
  fun _ _ _ _ => rfl

theorem finishes_finishEor : Finishes finishEor always fun m s => { s with a := s.a ^^^ m, p := nz (s.a ^^^ m) s.p } :=
  fun _ _ _ _ => rfl

theorem finishes_finishCompare (r : Reg) :
    Finishes (finishCompare r) always fun m s => { s with p := compared (s.reg r) m s.p } :=
  fun _ _ _ _ => rfl

theorem finishes_finishBit : Finishes finishBit always fun m s =>
    { s with p := { s.p with z := decide (s.a &&& m = 0), n := m.getLsbD 7, v := m.getLsbD 6 } } :=
  fun _ _ _ _ => rfl

/-- Settles O27: the eight rows each of AND, ORA and EOR. -/
theorem logicForms : Obligations.LogicForms := by
  unfold Obligations.LogicForms
  have hand := andRows.forms finishes_finishAnd
  have hora := oraRows.forms finishes_finishOra
  have heor := eorRows.forms finishes_finishEor
  exact hand.append (hora.append heor)

/-- Settles O28: the eight rows of CMP, and the immediate, zero-page and absolute rows of CPX and CPY. -/
theorem compareForms : Obligations.CompareForms := by
  unfold Obligations.CompareForms
  have hx := finishes_finishCompare .x
  have hy := finishes_finishCompare .y
  refine (cmpRows.forms (finishes_finishCompare .a)).append
    ⟨readImm_of_row (fun _ => ?_) hx, readZp_of_row (fun _ => ?_) hx, readAbs_of_row (fun _ => ?_) hx,
      readImm_of_row (fun _ => ?_) hy, readZp_of_row (fun _ => ?_) hy, readAbs_of_row (fun _ => ?_) hy⟩
  all_goals exact ⟨rfl, rfl, fun _ => rfl, fun _ => rfl⟩

/-- Settles O29: the two rows of BIT. -/
theorem bitForms : Obligations.BitForms := by
  unfold Obligations.BitForms
  refine ⟨readZp_of_row (fun _ => ?_) finishes_finishBit, readAbs_of_row (fun _ => ?_) finishes_finishBit⟩
  all_goals exact ⟨rfl, rfl, fun _ => rfl, fun _ => rfl⟩

/-! Which arithmetic ADC and SBC do (`45_arith_logic_compare.md` R126). -/

section
variable {s : State}

theorem adcResult_of_binaryArith (h : binaryArith s) (m : Byte) :
    adcResult s.params.decimal s.a m s.p = some (adcBinary s.a m s.p) := by
  obtain hd | hmode := h
  · simp [adcResult, hd]
  · simp [adcResult, hmode]

theorem sbcResult_of_binaryArith (h : binaryArith s) (m : Byte) :
    sbcResult s.params.decimal s.a m s.p = some (sbcBinary s.a m s.p) := by
  obtain hd | hmode := h
  · simp [sbcResult, hd]
  · simp [sbcResult, hmode]

theorem adcResult_of_decimalArith (h : decimalArith s) (m : Byte) :
    adcResult s.params.decimal s.a m s.p = some (adcDecimal s.a m s.p) := by
  obtain ⟨hd, hmode⟩ := h
  simp [adcResult, hd, hmode]

theorem sbcResult_of_decimalArith (h : decimalArith s) (m : Byte) :
    sbcResult s.params.decimal s.a m s.p = some (sbcDecimal s.a m s.p) := by
  obtain ⟨hd, hmode⟩ := h
  simp [sbcResult, hd, hmode]

theorem finishAdc_of_refuse (hd : s.p.d = true) (hmode : s.params.decimal = .refuse) (len : Word) (m : Byte) :
    finishAdc len m s = .refused .decimalArithmetic := by
  simp [finishAdc, adcResult, hd, hmode, finishArith]

theorem finishSbc_of_refuse (hd : s.p.d = true) (hmode : s.params.decimal = .refuse) (len : Word) (m : Byte) :
    finishSbc len m s = .refused .decimalArithmetic := by
  simp [finishSbc, sbcResult, hd, hmode, finishArith]

theorem keeps_of_refused {P : State → Prop} {q : Result} {e : Refusal} (h : q = .refused e) : Keeps P q :=
  h ▸ keeps_refused P e

/-- Every form of ADC and SBC ends in the arithmetic on some operand, with at most free values taken before. -/
theorem keeps_exec_of_arith {P : State → Prop} {i : Instr} (hi : i.mnemonic = .adc ∨ i.mnemonic = .sbc)
    (hadc : ∀ len m n, Keeps P (finishAdc len m { s with draws := n }))
    (hsbc : ∀ len m n, Keeps P (finishSbc len m { s with draws := n })) : Keeps P (exec i s) := by
  cases i with
  | adcImm d => exact hadc 2 d s.draws
  | adcZp | adcZpX => exact keeps_of_readByte (hadc 2)
  | adcAbs | adcAbsX | adcAbsY => exact keeps_of_readByte (hadc 3)
  | adcIndX => exact keeps_of_readIndX (hadc 2)
  | adcIndY => exact keeps_of_readIndY (hadc 2)
  | sbcImm d => exact hsbc 2 d s.draws
  | sbcZp | sbcZpX => exact keeps_of_readByte (hsbc 2)
  | sbcAbs | sbcAbsX | sbcAbsY => exact keeps_of_readByte (hsbc 3)
  | sbcIndX => exact keeps_of_readIndX (hsbc 2)
  | sbcIndY => exact keeps_of_readIndY (hsbc 2)
  | _ => obtain hi | hi := hi <;> cases hi

end

/-- Settles O26: every form ends in arithmetic that is refused. -/
theorem decimalRefusedByMode : Obligations.DecimalRefusedByMode := by
  unfold Obligations.DecimalRefusedByMode
  intro s hd hmode
  refine ⟨fun m => ⟨finishAdc_of_refuse hd hmode 2 m, finishSbc_of_refuse hd hmode 2 m⟩, fun i t hi h => ?_⟩
  simp only [List.mem_cons, List.not_mem_nil, or_false] at hi
  refine keeps_exec_of_arith (P := fun _ => False) hi (fun len m n => ?_) (fun len m n => ?_) t h
  · exact keeps_of_refused (finishAdc_of_refuse (s := { s with draws := n }) hd hmode len m)
  · exact keeps_of_refused (finishSbc_of_refuse (s := { s with draws := n }) hd hmode len m)

/-! Binary arithmetic: the claims' form of it. -/

theorem bitNat_eq_one (b : Bool) : bitNat b = one b := rfl

/-- Bit 7 as the model tests it for `V`. -/
theorem decide_signBit_ne_zero (b : Byte) : decide (b &&& 0x80#8 ≠ 0#8) = b.getLsbD 7 := by
  have h80 : 0x80#8 = BitVec.twoPow 8 7 := rfl
  rw [h80, BitVec.and_twoPow]
  cases b.getLsbD 7 <;> decide

theorem adcBinary_eq (m : Byte) (s : State) :
    adcBinary s.a m s.p = ((Claims.adc m s).a, (Claims.adc m s).p) := by
  simp only [adcBinary, decide_signBit_ne_zero]
  rfl

theorem sbcBinary_eq (m : Byte) (s : State) :
    sbcBinary s.a m s.p = ((Claims.sbc m s).a, (Claims.sbc m s).p) := by
  have hc := one_le s.p.c
  have hm := m.isLt
  have hdiff : BitVec.ofInt 8 ((s.a.toNat : Int) - m.toNat - (1 - one s.p.c)) =
      BitVec.ofNat 8 (256 + s.a.toNat - m.toNat - (1 - one s.p.c)) := by
    apply BitVec.eq_of_toNat_eq
    rw [BitVec.toNat_ofInt, BitVec.toNat_ofNat]
    omega
  have hcarry : (s.a.toNat : Int) - m.toNat - (1 - one s.p.c) ≥ 0 ↔ m.toNat + (1 - one s.p.c) ≤ s.a.toNat := by omega
  simp only [sbcBinary, decide_signBit_ne_zero, bitNat_eq_one, hdiff, hcarry]
  rfl

theorem finishes_finishAdc_binary : Finishes finishAdc binaryArith Claims.adc := by
  intro len m s hb
  rw [finishAdc, adcResult_of_binaryArith hb, adcBinary_eq]
  rfl

theorem finishes_finishSbc_binary : Finishes finishSbc binaryArith Claims.sbc := by
  intro len m s hb
  rw [finishSbc, sbcResult_of_binaryArith hb, sbcBinary_eq]
  rfl

/-! Decimal arithmetic: the claims' form of it. -/

theorem toNat_and_lowDigit (b : Byte) : (b &&& 0x0F#8).toNat = lowDigit b := Nat.and_two_pow_sub_one_eq_mod b.toNat 4

theorem toNat_and_highPart (b : Byte) : (b &&& 0xF0#8).toNat = highPart b := by
  have hb := b.isLt
  have hF0 : 0xF0#8 = BitVec.allOnes 8 <<< 4 := rfl
  rw [hF0, ← BitVec.shiftLeft_ushiftRight, BitVec.toNat_shiftLeft, BitVec.toNat_ushiftRight, Nat.shiftLeft_eq,
    Nat.shiftRight_eq_div_pow, highPart]
  omega

theorem getLsbD_seven_ofNat (t : Nat) : (BitVec.ofNat 8 t).getLsbD 7 = t.testBit 7 := by
  rw [BitVec.getLsbD_ofNat]
  rfl

theorem adcDecimal_eq (m : Byte) (s : State) : adcDecimal s.a m s.p = ((adcBcd m s).a, (adcBcd m s).p) := by
  simp only [adcDecimal, toNat_and_lowDigit, toNat_and_highPart, decide_signBit_ne_zero, getLsbD_seven_ofNat]
  rfl

theorem sbcDecimal_eq (m : Byte) (s : State) : sbcDecimal s.a m s.p = ((sbcBcd m s).a, (sbcBcd m s).p) := by
  simp only [sbcDecimal, toNat_and_lowDigit, toNat_and_highPart, sbcBinary_eq]
  rfl

theorem finishes_finishAdc_decimal : Finishes finishAdc decimalArith adcBcd := by
  intro len m s hd
  rw [finishAdc, adcResult_of_decimalArith hd, adcDecimal_eq]
  rfl

theorem finishes_finishSbc_decimal : Finishes finishSbc decimalArith sbcBcd := by
  intro len m s hd
  rw [finishSbc, sbcResult_of_decimalArith hd, sbcDecimal_eq]
  rfl

/-- Settles O24: the eight rows of ADC, in binary and in decimal. -/
theorem adcForms : Obligations.AdcForms := by
  unfold Obligations.AdcForms
  exact (adcRows.forms finishes_finishAdc_binary).append (adcRows.forms finishes_finishAdc_decimal)

/-- Settles O25: the eight rows of SBC, in binary and in decimal. -/
theorem sbcForms : Obligations.SbcForms := by
  unfold Obligations.SbcForms
  exact (sbcRows.forms finishes_finishSbc_binary).append (sbcRows.forms finishes_finishSbc_decimal)

/-! SBC is ADC of the complement (`45_arith_logic_compare.md` R125). -/

theorem toNat_complement (m : Byte) : (m ^^^ 0xFF#8).toNat = 255 - m.toNat := by
  have hFF : 0xFF#8 = BitVec.allOnes 8 := rfl
  rw [hFF, BitVec.xor_allOnes, BitVec.toNat_not]

theorem getLsbD_seven_complement (m : Byte) : (m ^^^ 0xFF#8).getLsbD 7 = !m.getLsbD 7 := by
  simp

theorem sbc_eq_adc_complement (m : Byte) (s : State) : Claims.sbc m s = Claims.adc (m ^^^ 0xFF#8) s := by
  have hc := one_le s.p.c
  have hm := m.isLt
  have hsum : s.a.toNat + (m ^^^ 0xFF#8).toNat + one s.p.c = 256 + s.a.toNat - m.toNat - (1 - one s.p.c) := by
    rw [toNat_complement]
    omega
  have hcarry : 255 < 256 + s.a.toNat - m.toNat - (1 - one s.p.c) ↔ m.toNat + (1 - one s.p.c) ≤ s.a.toNat := by omega
  have hv (r : Byte) : ((s.a ^^^ m) &&& (s.a ^^^ r)).getLsbD 7 = ((s.a ^^^ r) &&& (m ^^^ 0xFF#8 ^^^ r)).getLsbD 7 := by
    rw [BitVec.getLsbD_and, BitVec.getLsbD_and, BitVec.getLsbD_xor, BitVec.getLsbD_xor, BitVec.getLsbD_xor,
      getLsbD_seven_complement]
    cases s.a.getLsbD 7 <;> cases m.getLsbD 7 <;> cases r.getLsbD 7 <;> rfl
  simp only [Claims.sbc, Claims.adc, hsum, hcarry, hv]

theorem exec_adcImm_binary {s : State} (h : binaryArith s) (m : Byte) :
    exec (.adcImm m) s = .next { Claims.adc m s with pc := s.pc + 2 } := finishes_finishAdc_binary 2 m s h

/-- Settles O49: the two have one effect. -/
theorem sbcIsAdcOfComplement : Obligations.SbcIsAdcOfComplement := by
  unfold Obligations.SbcIsAdcOfComplement
  intro s m hd
  calc exec (.sbcImm m) s
      = .next { Claims.sbc m s with pc := s.pc + 2 } := finishes_finishSbc_binary 2 m s (.inl hd)
    _ = .next { Claims.adc (m ^^^ 0xFF#8) s with pc := s.pc + 2 } := by rw [sbc_eq_adc_complement]
    _ = exec (.adcImm (m ^^^ 0xFF)) s := (exec_adcImm_binary (.inl hd) _).symm

/-! What the flags of ADC say (`45_arith_logic_compare.md` R134). -/

theorem toInt_complement (m : Byte) : (m ^^^ 0xFF#8).toInt = -1 - m.toInt := by
  have hm := m.isLt
  rw [BitVec.toInt_eq_toNat_cond, BitVec.toInt_eq_toNat_cond, toNat_complement]
  split <;> split <;> omega

theorem toNat_adc_a (m : Byte) (s : State) :
    (Claims.adc m s).a.toNat = (s.a.toNat + m.toNat + one s.p.c) % 256 := BitVec.toNat_ofNat _ _

theorem adc_c_iff (m : Byte) (s : State) :
    (Claims.adc m s).p.c = true ↔ 255 < s.a.toNat + m.toNat + one s.p.c := decide_eq_true_iff

/-- `V` says that both operands have the sign that the result has not, which is that their sum is out of range. -/
theorem adc_v_iff (m : Byte) (s : State) : (Claims.adc m s).p.v = true ↔
    s.a.toInt + m.toInt + one s.p.c < -128 ∨ 127 < s.a.toInt + m.toInt + one s.p.c := by
  have hr := toNat_adc_a m s
  have hv : (Claims.adc m s).p.v = ((s.a ^^^ (Claims.adc m s).a) &&& (m ^^^ (Claims.adc m s).a)).getLsbD 7 := rfl
  have hc := one_le s.p.c
  have ha := s.a.isLt
  have hm := m.isLt
  rw [hv, BitVec.getLsbD_and, BitVec.getLsbD_xor, BitVec.getLsbD_xor, getLsbD_seven, getLsbD_seven, getLsbD_seven, hr,
    BitVec.toInt_eq_toNat_cond, BitVec.toInt_eq_toNat_cond, Bool.and_eq_true, bne_iff_ne, bne_iff_ne]
  simp only [ne_eq, decide_eq_decide]
  omega

/-- Settles O48: ADC by its effect, and SBC as ADC of the complement. -/
theorem arithmeticReportsBothOutcomes : Obligations.ArithmeticReportsBothOutcomes := by
  unfold Obligations.ArithmeticReportsBothOutcomes
  intro s m hd
  have hc := one_le s.p.c
  have hm := m.isLt
  have hsbc : exec (.sbcImm m) s = .next { Claims.adc (m ^^^ 0xFF#8) s with pc := s.pc + 2 } :=
    (sbcIsAdcOfComplement s m hd).trans (exec_adcImm_binary (.inl hd) _)
  refine ⟨⟨_, exec_adcImm_binary (.inl hd) m, toNat_adc_a m s, adc_c_iff m s, adc_v_iff m s⟩,
    ⟨_, hsbc, ?a, ?c, ?v⟩⟩
  case a =>
    refine (congrArg Nat.cast (toNat_adc_a (m ^^^ 0xFF#8) s)).trans ?_
    rw [toNat_complement]
    omega
  case c =>
    refine (adc_c_iff (m ^^^ 0xFF#8) s).trans ?_
    rw [toNat_complement]
    omega
  case v =>
    refine (adc_v_iff (m ^^^ 0xFF#8) s).trans ?_
    rw [toInt_complement]
    omega

/-! Decimal arithmetic on valid digits. -/

theorem toNat_bcd {v : Nat} (h : v < 100) : (bcd v).toNat = 16 * (v / 10) + v % 10 := by
  rw [bcd, BitVec.toNat_ofNat]
  omega

theorem lowDigit_bcd {v : Nat} (h : v < 100) : lowDigit (bcd v) = v % 10 := by
  rw [lowDigit, toNat_bcd h]
  omega

theorem highPart_bcd {v : Nat} (h : v < 100) : highPart (bcd v) = 16 * (v / 10) := by
  rw [highPart, toNat_bcd h]
  omega

/-- A digit with a carry to the next. -/
theorem exists_digit_carry {x : Nat} (h : x < 20) : ∃ l d, l < 10 ∧ d ≤ 1 ∧ x = l + 10 * d :=
  ⟨x % 10, x / 10, by omega, by omega, by omega⟩

/-- A digit with a borrow from the next. -/
theorem exists_digit_borrow {x : Int} (hl : -10 ≤ x) (hh : x < 10) :
    ∃ l d : Nat, l < 10 ∧ d ≤ 1 ∧ x = l - 10 * d := by
  obtain h | h : x < 0 ∨ 0 ≤ x := by omega
  · exact ⟨(x + 10).toNat, 1, by omega, by omega, by omega⟩
  · exact ⟨x.toNat, 0, by omega, by omega, by omega⟩

section
variable {s : State} {u w : Nat}

/-- The low digits leave the digit `l` and carry `d`, the high digits and `d` leave `h` and carry `e`. -/
theorem adcBcd_bcd (hu : u < 100) (hw : w < 100) (ha : s.a = bcd u) :
    (adcBcd (bcd w) s).a = bcd ((u + w + one s.p.c) % 100) ∧
      ((adcBcd (bcd w) s).p.c = true ↔ 100 ≤ u + w + one s.p.c) := by
  have hc := one_le s.p.c
  obtain ⟨l, d, hl, hd, hlow⟩ := exists_digit_carry (x := u % 10 + w % 10 + one s.p.c) (by omega)
  obtain ⟨h, e, hh, he, hhigh⟩ := exists_digit_carry (x := u / 10 + w / 10 + d) (by omega)
  have hal : (if 10 ≤ l + 10 * d then (l + 10 * d + 6) % 16 + 16 else l + 10 * d) = l + 16 * d := by
    split <;> omega
  have ht : 16 * (u / 10) + 16 * (w / 10) + (l + 16 * d) = 16 * h + l + 160 * e := by omega
  have hfix : (if 160 ≤ 16 * h + l + 160 * e then 16 * h + l + 160 * e + 96 else 16 * h + l + 160 * e) =
      16 * h + l + 256 * e := by
    split <;> omega
  have hsum : u + w + one s.p.c = 10 * h + l + 100 * e := by omega
  simp only [adcBcd, ha, lowDigit_bcd hu, lowDigit_bcd hw, highPart_bcd hu, highPart_bcd hw, hlow, hal, ht, hfix, hsum,
    decide_eq_true_eq]
  have hmod : (10 * h + l + 100 * e) % 100 = 10 * h + l := by omega
  refine ⟨BitVec.eq_of_toNat_eq ?_, by omega⟩
  rw [hmod, toNat_bcd (by omega), BitVec.toNat_ofNat]
  omega

/-- The low digits leave the digit `l` and borrow `d`, the high digits without `d` leave `h` and borrow `e`. -/
theorem sbcBcd_bcd (hu : u < 100) (hw : w < 100) (ha : s.a = bcd u) :
    (sbcBcd (bcd w) s).a = bcd ((99 + u - w + one s.p.c) % 100) ∧
      ((sbcBcd (bcd w) s).p.c = true ↔ w + (1 - one s.p.c) ≤ u) := by
  have hc := one_le s.p.c
  refine ⟨BitVec.eq_of_toNat_eq ?_, ?_⟩
  · obtain ⟨l, d, hl, hd, hlow⟩ := exists_digit_borrow (x := ((u % 10 : Nat) : Int) - (w % 10 : Nat) - (1 - one s.p.c))
      (by omega) (by omega)
    obtain ⟨h, e, hh, he, hhigh⟩ := exists_digit_borrow (x := (u / 10 : Int) - w / 10 - d) (by omega) (by omega)
    have hal : (if (l : Int) - 10 * d < 0 then ((l : Int) - 10 * d - 6) % 16 - 16 else (l : Int) - 10 * d) =
        l - 16 * d := by
      split <;> omega
    have ht : ((16 * (u / 10) : Nat) : Int) - (16 * (w / 10) : Nat) + (l - 16 * d) = 16 * h + l - 160 * e := by omega
    have hfix : (if (16 * h + l - 160 * e : Int) < 0 then (16 * h + l - 160 * e - 96 : Int)
        else 16 * h + l - 160 * e) = 16 * h + l - 256 * e := by
      split <;> omega
    have hdiff : (99 + u - w + one s.p.c) % 100 = 10 * h + l := by omega
    simp only [sbcBcd, ha, lowDigit_bcd hu, lowDigit_bcd hw, highPart_bcd hu, highPart_bcd hw, hlow, hal, ht, hfix]
    rw [hdiff, toNat_bcd (by omega), BitVec.toNat_ofInt]
    omega
  · have hborrow : (sbcBcd (bcd w) s).p.c = true ↔ (bcd w).toNat + (1 - one s.p.c) ≤ s.a.toNat := decide_eq_true_iff
    rw [hborrow, ha, toNat_bcd hu, toNat_bcd hw]
    omega

end

/-- Settles O50: both by their decimal effect on two digits each. -/
theorem decimalArithmeticOnDigits : Obligations.DecimalArithmeticOnDigits := by
  unfold Obligations.DecimalArithmeticOnDigits
  intro s u w hu hw ha hd hmode
  exact ⟨⟨_, finishes_finishAdc_decimal 2 (bcd w) s ⟨hd, hmode⟩, adcBcd_bcd hu hw ha⟩,
    ⟨_, finishes_finishSbc_decimal 2 (bcd w) s ⟨hd, hmode⟩, sbcBcd_bcd hu hw ha⟩⟩

/-! What the branches decide after a comparison (`45_arith_logic_compare.md` R135). -/

/-- A branch whose condition says `taken`. -/
theorem branchIf_of_iff {c : Bool} {taken : Prop} [Decidable taken] (h : c = true ↔ taken) (k : Int) (t : State) :
    branchIf c k t = .next { t with pc := if taken then t.pc + 2 + BitVec.ofInt 16 k else t.pc + 2 } := by
  rw [branchIf_eq, if_congr h rfl rfl]
  rfl

/-- The condition of the branch on a flag that is 0. -/
theorem bnot_iff {c : Bool} {p : Prop} (h : c = true ↔ p) : (!c) = true ↔ ¬ p := by
  rw [Bool.not_eq_true', ← Bool.not_eq_true, h]

/-- `N` after a comparison is the sign of the difference modulo 256. -/
theorem getLsbD_seven_sub (r m : Byte) : (r - m).getLsbD 7 = true ↔ 128 ≤ (256 + r.toNat - m.toNat) % 256 := by
  have hm := m.isLt
  rw [getLsbD_seven, BitVec.toNat_sub, decide_eq_true_iff]
  omega

section
variable {r m : Byte}

theorem sub_negative_of_fits (h : -128 ≤ r.toInt - m.toInt ∧ r.toInt - m.toInt ≤ 127) :
    (r - m).getLsbD 7 = true ↔ r.toInt < m.toInt := by
  have hr := r.isLt
  have hm := m.isLt
  rw [getLsbD_seven_sub]
  rw [BitVec.toInt_eq_toNat_cond, BitVec.toInt_eq_toNat_cond] at h ⊢
  omega

theorem sub_negative_of_not_fits (h : ¬ (-128 ≤ r.toInt - m.toInt ∧ r.toInt - m.toInt ≤ 127)) :
    (r - m).getLsbD 7 = true ↔ m.toInt ≤ r.toInt := by
  have hr := r.isLt
  have hm := m.isLt
  rw [getLsbD_seven_sub]
  rw [BitVec.toInt_eq_toNat_cond, BitVec.toInt_eq_toNat_cond] at h ⊢
  omega

end

/-- The immediate comparisons of the claim compare one of the registers. -/
theorem exists_reg_of_compareImm {s : State} {f : (Byte → Instr) × Byte}
    (hf : f ∈ [(Instr.cmpImm, s.a), (Instr.cpxImm, s.x), (Instr.cpyImm, s.y)]) :
    ∃ g, f.2 = s.reg g ∧ ∀ m, exec (f.1 m) s = finishCompare g 2 m s := by
  simp only [List.mem_cons, List.not_mem_nil, or_false] at hf
  obtain rfl | rfl | rfl := hf
  · exact ⟨.a, rfl, fun _ => rfl⟩
  · exact ⟨.x, rfl, fun _ => rfl⟩
  · exact ⟨.y, rfl, fun _ => rfl⟩

/-- Settles O47: C, Z and N of the comparison, each read by its two branches. -/
theorem compareThenBranch : Obligations.CompareThenBranch := by
  unfold Obligations.CompareThenBranch
  rintro s m k ⟨mk, r⟩ hf
  obtain ⟨g, rfl, hx⟩ := exists_reg_of_compareImm hf
  have hc : decide (m.toNat ≤ (s.reg g).toNat) = true ↔ m.toNat ≤ (s.reg g).toNat := decide_eq_true_iff
  have hz : decide (s.reg g = m) = true ↔ s.reg g = m := decide_eq_true_iff
  refine ⟨_, hx m, rfl, branchIf_of_iff ?bcc k _, branchIf_of_iff hc k _, branchIf_of_iff hz k _,
    branchIf_of_iff ?bne k _,
    fun h => ⟨branchIf_of_iff (sub_negative_of_fits h) k _, branchIf_of_iff ?bpl k _⟩,
    fun h => ⟨branchIf_of_iff (sub_negative_of_not_fits h) k _, branchIf_of_iff ?bplWraps k _⟩⟩
  case bcc => exact (bnot_iff hc).trans not_le
  case bne => exact bnot_iff hz
  case bpl => exact (bnot_iff (sub_negative_of_fits h)).trans not_lt
  case bplWraps => exact (bnot_iff (sub_negative_of_not_fits h)).trans not_le

end Sys2Proof.Machine

/-! # INC and DEC of memory

The rows of INC and DEC stand with those of the shifts, as does what four rows of one operation come to. What is left is
what the operation itself does where storage answers: the byte read is counted by `delta`, and N and Z are set from the
byte written. -/

namespace Sys2Proof.Machine

open Sys2Proof.Claims

/-- The claim's flags are the model's (`46_incdec_memory.md` R138, R139): N and Z from the byte, the others kept. -/
theorem counted_eq_setNZ (delta m : Byte) (p : Flags) : counted delta m p = (m + delta, setNZ (m + delta) p) := rfl

theorem modifies_countMem (delta : Byte) : Modifies (countMem delta) (counted delta) := by
  intro len ea s h
  rw [countMem, readByte_plain h, writeByte_eq h.not_device, stored_singleton, counted_eq_setNZ]
  rfl

/-- Settles O30: the rows of INC count by one, and those of DEC by `$FF`, which is minus one modulo 256. -/
theorem incDecForms : Obligations.IncDecForms := by
  unfold Obligations.IncDecForms
  have hinc : Modifies (countMem 0x01) (counted 1) := modifies_countMem 1
  have hdec : Modifies (countMem 0xFF) (counted (-1)) := modifies_countMem (-1)
  exact ⟨incRows.modZp hinc, incRows.modZpX hinc, incRows.modAbs hinc, incRows.modAbsX hinc,
    decRows.modZp hdec, decRows.modZpX hdec, decRows.modAbs hdec, decRows.modAbsX hdec⟩

end Sys2Proof.Machine

/-! # Control flow

The claims write memory as a list of stores and count `S` at once; the model pushes byte by byte. Tied to each other
once, the pushes and pulls of `Laws/Ops` are the jumps, calls, traps and returns. A branch is a row of the opcode table
with the flag it tests; the eight are settled together. -/

namespace Sys2Proof.Machine

open Sys2Proof.Claims

/-! The stack as the claims write it. -/

theorem sub_one_sub_one (p : Byte) : p - 1 - 1 = p - 2 := BitVec.sub_sub p 1 1

theorem add_one_add_one (p : Byte) : p + 1 + 1 = p + 2 := BitVec.add_assoc p 1 1

/-- The last of several stores is a write on the memory that the others leave. -/
theorem stored_concat (s : State) (cells : List (Word × Byte)) (a : Word) (v : Byte) :
    stored s (cells ++ [(a, v)]) = { s with mem := stored s cells }.poke a v := by
  rw [State.poke_eq, stored, List.foldl_concat]
  rfl

theorem pushedWord_eq_stored (s : State) (w : Word) :
    s.pushedWord w = stored s [(stackByte s.sp, hiByte w), (stackByte (s.sp - 1), loByte w)] := by
  rw [State.pushedWord, ← stored_singleton s]
  exact (stored_concat s [_] _ _).symm

theorem trapped_eq_stored (s : State) (ret : Word) (b : Bool) :
    s.trapped ret b = stored s [(stackByte s.sp, hiByte ret), (stackByte (s.sp - 1), loByte ret),
      (stackByte (s.sp - 2), statusByte b s.p)] := by
  rw [State.trapped, pushedWord_eq_stored, sub_one_sub_one, pByte_eq_statusByte]
  exact (stored_concat s [_, _] _ _).symm

/-- An address outside page 1 is no stack address. -/
theorem ne_stackAddr_of_hiByte {a : Word} (h : hiByte a ≠ stackPage) (p : Byte) : a ≠ stackAddr p := by
  rintro rfl
  exact h (hiByte_stackAddr p)

section
variable {s : State}

/-- A trap entry leaves the bytes outside page 1 alone, the vectors among them. -/
theorem State.read_trapped_of_hiByte {a : Word} (h : hiByte a ≠ stackPage) (ret : Word) (b : Bool) :
    (s.trapped ret b).read a = s.peek a :=
  have hne := ne_stackAddr_of_hiByte h
  State.read_trapped_other (hne _) (hne _) (hne _) ret b

/-- The high byte pushed first stays: the low byte goes to another address, whatever `S` is. -/
theorem State.read_pushedWord_hiByte (hs : Inv s) (h0 : s.kindAt (stackAddr s.sp) = .ram) (w : Word) :
    (s.pushedWord w).read (stackAddr s.sp) = hiByte w := by
  have hne : stackAddr s.sp ≠ stackAddr (s.sp - 1) := by
    rw [ne_eq, stackAddr_inj]
    bv_omega
  exact (State.read_poke_other hne _ _).trans (State.read_poke_same hs h0 _)

theorem State.read_pushedWord_loByte (hs : Inv s) (h1 : s.kindAt (stackAddr (s.sp - 1)) = .ram) (w : Word) :
    (s.pushedWord w).read (stackAddr (s.sp - 1)) = loByte w :=
  State.read_poke_same (s := { s with mem := s.poke (stackAddr s.sp) (hiByte w) }) (State.wf_poke hs _ _) h1 _

/-- Pulling a word that lies at `$01 : sp` and below, with `S` below it. -/
theorem pullWord_of_stacked {α : Type} {sp : Byte} {w : Word} (hsp : s.sp = sp - 1 - 1)
    (hl : s.Plain (stackAddr (sp - 1))) (hh : s.Plain (stackAddr sp))
    (hlo : s.peek (stackAddr (sp - 1)) = loByte w) (hhi : s.peek (stackAddr sp) = hiByte w)
    (k : Word → State → Answer α) : pullWord s k = k w { s with sp := sp } := by
  have h1 : s.sp + 1 = sp - 1 := by rw [hsp, BitVec.sub_add_cancel]
  have h2 : s.sp + 1 + 1 = sp := by rw [h1, BitVec.sub_add_cancel]
  rw [pullWord_plain (by rwa [h1]) (by rwa [h2]), h2, h1, hlo, hhi, wordOf_hiByte_loByte]

end

/-! The jumps, the returns and BRK where no device is met. -/

section
variable {s : State}

/-- The pointer's high byte is read in the page of its low byte (`40_addressing_modes.md` R80). -/
theorem execJmpInd_plain {h l : Byte} (hl : s.Plain (wordOf h l)) (hh : s.Plain (wordOf h (l + 1))) :
    execJmpInd (wordOf h l) s =
      .next { s with pc := wordOf (s.peek (wordOf h (l + 1))) (s.peek (wordOf h l)) } := by
  have hh' : s.Plain (wordOf (hiByte (wordOf h l)) (loByte (wordOf h l) + 1)) := by simpa using hh
  rw [execJmpInd, withIndirect_plain hl hh', hiByte_wordOf, loByte_wordOf]

theorem jsrOverwritesOperand_iff : jsrOverwritesOperand s = true ↔ overwritesOperand s := by
  simp [jsrOverwritesOperand, overwritesOperand, stackByte_eq_stackAddr]

theorem execJsr_of_overwrites (h : overwritesOperand s) (addr : Word) :
    execJsr addr s = .refused (.jsrOverwritesOperand s.pc) := by
  rw [execJsr, if_pos (jsrOverwritesOperand_iff.mpr h)]

theorem execJsr_eq (h : ¬ overwritesOperand s) (h0 : s.kindAt (stackByte s.sp) ≠ .device)
    (h1 : s.kindAt (stackByte (s.sp - 1)) ≠ .device) (addr : Word) :
    execJsr addr s = .next { s with
      mem := stored s [(stackByte s.sp, hiByte (s.pc + 2)), (stackByte (s.sp - 1), loByte (s.pc + 2))]
      sp := s.sp - 2
      pc := addr } := by
  rw [execJsr, if_neg (mt jsrOverwritesOperand_iff.mp h), pushWord_eq h0 h1, pushedWord_eq_stored,
    sub_one_sub_one]

theorem execRts_plain (h0 : s.Plain (stackByte (s.sp + 1))) (h1 : s.Plain (stackByte (s.sp + 2))) :
    execRts s = .next { s with
      pc := wordOf (s.peek (stackByte (s.sp + 2))) (s.peek (stackByte (s.sp + 1))) + 1, sp := s.sp + 2 } := by
  rw [← add_one_add_one] at h1 ⊢
  exact pullWord_plain h0 h1 _

theorem execBrk_eq (h0 : s.kindAt (stackByte s.sp) ≠ .device) (h1 : s.kindAt (stackByte (s.sp - 1)) ≠ .device)
    (h2 : s.kindAt (stackByte (s.sp - 2)) ≠ .device) (hl : s.Plain vecIrq) (hh : s.Plain (vecIrq + 1)) :
    execBrk s = .next { s with
      mem := stored s [(stackByte s.sp, hiByte (s.pc + 2)), (stackByte (s.sp - 1), loByte (s.pc + 2)),
        (stackByte (s.sp - 2), statusByte true s.p)]
      sp := s.sp - 3
      p := { s.p with i := true }
      pc := wordOf (s.peek (vecIrq + 1)) (s.peek vecIrq) } := by
  rw [← sub_one_sub_one] at h2
  have hsp : s.sp - 1 - 1 - 1 = s.sp - 3 := by bv_omega
  rw [execBrk, enterTrap_eq h0 h1 h2 hl hh, State.read_trapped_of_hiByte (by decide),
    State.read_trapped_of_hiByte (by decide), trapped_eq_stored, hsp]

theorem execRti_plain (h0 : s.Plain (stackByte (s.sp + 1))) (h1 : s.Plain (stackByte (s.sp + 2)))
    (h2 : s.Plain (stackByte (s.sp + 3))) :
    execRti s = .next { s with
      p := flagsOfByte (s.peek (stackByte (s.sp + 1)))
      pc := wordOf (s.peek (stackByte (s.sp + 3))) (s.peek (stackByte (s.sp + 2)))
      sp := s.sp + 3 } := by
  have hsp : s.sp + 3 = s.sp + 1 + 1 + 1 := by bv_omega
  rw [← add_one_add_one] at h1 ⊢
  rw [hsp] at h2 ⊢
  exact returnFromTrap_plain h0 h1 h2 .next

end

/-- Settles O44: RTS pulls the word that JSR pushed and adds 1 to it. -/
theorem jsrThenRtsReturns : Obligations.JsrThenRtsReturns := by
  unfold Obligations.JsrThenRtsReturns
  intro s t addr hs h0 h1 h
  obtain rfl := execJsr_next h
  have hpull := pullWord_of_stacked (s := { s with mem := s.pushedWord (s.pc + 2), sp := s.sp - 1 - 1, pc := addr })
    rfl (.inl h1) (.inl h0) (State.read_pushedWord_loByte hs h1 _) (State.read_pushedWord_hiByte hs h0 _)
    fun ret s1 => (.next { s1 with pc := ret + 1 } : Result)
  have hpc : s.pc + 2 + 1 = s.pc + 3 := BitVec.add_assoc s.pc 2 1
  rw [← hpc]
  exact hpull

/-- Settles O31: the absolute form takes the operand itself, the indirect one the pointer there. -/
theorem jmpForms : Obligations.JmpForms := by
  unfold Obligations.JmpForms
  refine ⟨fun l h => ⟨decodes_wordOperand (i := .jmpAbs _) rfl, ?abs⟩,
    fun l h => ⟨decodes_wordOperand (i := .jmpInd _) rfl, ?ind⟩⟩
  case abs => exact fun s => ⟨rfl, cycles_of_fixed rfl⟩
  case ind => exact fun s hl hh => ⟨execJmpInd_plain hl hh, cycles_of_fixed rfl⟩

/-- Settles O32: the push of a word and the jump, refused where the push overwrites the operand. -/
theorem jsrPushesReturnAddress : Obligations.JsrPushesReturnAddress := by
  unfold Obligations.JsrPushesReturnAddress
  exact fun l h => ⟨decodes_wordOperand (i := .jsr _) rfl, fun s =>
    ⟨cycles_of_fixed rfl, fun ho => execJsr_of_overwrites ho _, fun ho h0 h1 => execJsr_eq ho h0 h1 _⟩⟩

/-- Settles O33: the pull of a word, plus 1. -/
theorem rtsPullsReturnAddress : Obligations.RtsPullsReturnAddress := by
  unfold Obligations.RtsPullsReturnAddress
  exact ⟨decodes_opcode (i := .rts) rfl, fun s h0 h1 => ⟨execRts_plain h0 h1, cycles_of_fixed rfl⟩⟩

/-- Settles O34: the trap entry through the vector of IRQ, which lies outside the stack page. -/
theorem brkTakesTheTrap : Obligations.BrkTakesTheTrap := by
  unfold Obligations.BrkTakesTheTrap
  exact ⟨decodes_opcode (i := .brk) rfl,
    fun s h0 h1 h2 hl hh => ⟨execBrk_eq h0 h1 h2 hl hh, cycles_of_fixed rfl⟩⟩

/-- Settles O35: the return from a trap. -/
theorem rtiRestoresFlagsAndPc : Obligations.RtiRestoresFlagsAndPc := by
  unfold Obligations.RtiRestoresFlagsAndPc
  exact ⟨decodes_opcode (i := .rti) rfl, fun s h0 h1 h2 => ⟨execRti_plain h0 h1 h2, cycles_of_fixed rfl⟩⟩

/-- Settles O36: the advance alone. -/
theorem nopOnlyAdvancesPc : Obligations.NopOnlyAdvancesPc := by
  unfold Obligations.NopOnlyAdvancesPc
  exact oneByte_of_advance (i := .nop) rfl (fun _ => rfl) (fun _ => rfl) fun _ => rfl

/-! The conditional branches (`47_control_flow.md` R148). -/

/-- The opcode and the byte of its displacement spell a branch (`30_encoding.md` R52). -/
theorem decodes_dispOperand {i : Instr} {d : Byte} (ho : i.operand = .disp (signed8 d)) : Decodes [i.opcode, d] i := by
  have hsel := selectedBy_operand i
  rw [ho] at hsel
  obtain ⟨mk, hf, hi⟩ := hsel
  simpa [Decodes, hi] using decode_two [] hf d

/-- A row of the opcode table that branches on `cond`: opcode, mode, operand, cycles and meaning. -/
structure BranchRow (i : Instr) (op : Byte) (disp : Int) (cond : Flags → Bool) : Prop where
  opcode_eq : i.opcode = op
  mode_eq : i.mode = .relative
  operand_eq : i.operand = .disp disp
  cycleRule_eq : ∀ p, cycleRule p i = .branch (cond p)
  exec_eq : ∀ s, exec i s = branchIf (cond s.p) disp s

namespace BranchRow

variable {i : Instr} {op d : Byte} {disp : Int} {cond : Flags → Bool}

/-- Two cycles, one more when taken and one more on a page crossing (`70_reset_and_hazards.md` R188). -/
theorem cycles_eq (hr : BranchRow i op disp cond) (s : State) :
    cycles i s = .next (if cond s.p then 3 + crossing (s.pc + 2) (eaRel disp s) else 2) := by
  rw [cycles, hr.cycleRule_eq]
  cases cond s.p with
  | false => rfl
  | true => simp [withPage, pageCrossed, hr.mode_eq, hr.operand_eq, bitNat_crossed]

theorem decodes (hr : BranchRow i op (signed8 d) cond) : Decodes [op, d] i := by
  rw [← hr.opcode_eq]
  exact decodes_dispOperand hr.operand_eq

end BranchRow

theorem eaRel_signed8 (d : Byte) (s : State) : eaRel (signed8 d) s = s.pc + 2 + d.signExtend 16 := by
  rw [eaRel, wordOfInt_signed8]

theorem branches_of_row {op : Byte} {mk : Int → Instr} {cond : Flags → Bool}
    (hr : ∀ d, BranchRow (mk d) op d cond) : Branches op mk cond := by
  refine fun d => ⟨(hr (signed8 d)).decodes, fun s => ?_⟩
  rw [← eaRel_signed8]
  exact ⟨((hr _).exec_eq s).trans (branchIf_eq _ _ s), (hr _).cycles_eq s⟩

/-- Settles O37: the eight rows. -/
theorem branchForms : Obligations.BranchForms := by
  unfold Obligations.BranchForms
  refine ⟨branches_of_row fun _ => ?_, branches_of_row fun _ => ?_, branches_of_row fun _ => ?_,
    branches_of_row fun _ => ?_, branches_of_row fun _ => ?_, branches_of_row fun _ => ?_,
    branches_of_row fun _ => ?_, branches_of_row fun _ => ?_⟩
  all_goals exact ⟨rfl, rfl, rfl, fun _ => rfl, fun _ => rfl⟩

end Sys2Proof.Machine

/-! # Completion, and what no instruction touches

An instruction that does not answer a next state was refused, and `refusesOn_exec` has the grounds for that. What the
boundary alone writes is kept by the three writes an instruction is made of. -/

namespace Sys2Proof.Machine

open Sys2Proof.Claims

/-- Settles O10: each ground of a refusal is one that the premises leave out. -/
theorem everyInstructionCompletes : Obligations.EveryInstructionCompletes := by
  unfold Obligations.EveryInstructionCompletes
  intro i s hdev hdec hjsr
  cases h : exec i s with
  | next t => exact ⟨t, rfl⟩
  | fault f => cases f
  | refused e =>
    cases refusesOn_exec i s e h with
    | device ha => exact absurd ha (hdev _)
    | decimal hm hd hmode => exact absurd hmode (hdec hm hd)
    | jsr hi ho =>
      subst hi
      exact absurd (overwritesOperand_iff.mp ho) (hjsr rfl)

/-- `t` has the interrupt state and the parameters of `s`, and has taken no fewer free values. -/
def KeepsControl (s t : State) : Prop :=
  t.nmiPending = s.nmiPending ∧ t.lines = s.lines ∧ t.inputs = s.inputs ∧ t.iPoll = s.iPoll ∧
    t.params = s.params ∧ s.draws ≤ t.draws

/-- Only the taking of a free value writes any of these, and it counts up. -/
theorem instrClosed_keepsControl (s : State) : InstrClosed (KeepsControl s) where
  regs h _ _ _ _ _ _ := h
  draw := fun ⟨hnmi, hlines, hinputs, hpoll, hparams, hdraws⟩ =>
    ⟨hnmi, hlines, hinputs, hpoll, hparams, Nat.le_succ_of_le hdraws⟩
  poke h _ _ := h

/-- Settles O60, by what every instruction keeps. -/
theorem instructionsLeaveInterruptStateAlone : Obligations.InstructionsLeaveInterruptStateAlone := by
  unfold Obligations.InstructionsLeaveInterruptStateAlone
  intro i s t h
  have hself : KeepsControl s s := ⟨rfl, rfl, rfl, rfl, rfl, le_rfl⟩
  exact (instrClosed_keepsControl s).keeps_exec hself i t h

/-! What the address map makes of one access (`93_implementation_defined.md` U6 to U8). -/

section
variable {s : State} {g : Reg} {len ea : Word}

/-- A store to `rom` or to an absent address is discarded. -/
theorem storeReg_discarded (h : s.kindAt ea = .rom ∨ s.kindAt ea = .absent) :
    storeReg g len ea s = .next (s.advance len) := by
  have hdev : s.kindAt ea ≠ .device := by obtain h | h := h <;> simp [h]
  have hram : s.kindAt ea ≠ .ram := by obtain h | h := h <;> simp [h]
  rw [storeReg_eq hdev, State.poke_of_not_ram hram]
  rfl

theorem storeReg_device (h : s.kindAt ea = .device) : storeReg g len ea s = .refused (.deviceAccess ea) :=
  writeByte_device h _ _

end

/-- Settles O12: the store by its kind of address, and the read by what `readByte` answers there. -/
theorem addressMapDecidesAccess : Obligations.AddressMapDecidesAccess := by
  unfold Obligations.AddressMapDecidesAccess
  intro s a
  refine ⟨?store, ?load, ?device⟩
  case store => exact storeReg_discarded
  case load => exact fun h => readByte_absent h _
  case device => exact fun h => ⟨storeReg_device h, readByte_device h _⟩

end Sys2Proof.Machine

/-! # Interrupts and RESET

The boundary takes the first sample in and so decides the event (`60_exceptions.md` R166). IRQ and NMI then run the
entry sequence of BRK, each with a vector; RTI undoes it. -/

namespace Sys2Proof.Machine

open Sys2Proof.Claims

/-! The boundary. -/

theorem sampleLines_of_cons {s : State} {l : Lines} {rest : List Lines} (h : s.inputs = l :: rest) :
    sampleLines s =
      { s with inputs := rest, lines := l, nmiPending := s.nmiPending || (l.nmi && !s.lines.nmi) } := by
  simp only [sampleLines, h, List.headD_cons, List.tail_cons]

/-- A line that is released, or asserted as at the sample before, is no edge (`60_exceptions.md` R163). -/
theorem nmiEdge_eq_false {now before : Bool} (h : now = true → before = true) : (now && !before) = false := by
  cases now with
  | false => rfl
  | true => simp [h]

section
variable {t : State}

theorem pendingEvent_of_reset (h : t.lines.reset = true) : pendingEvent t = .reset := by
  simp [pendingEvent, h]

theorem pendingEvent_of_nmi (hr : t.lines.reset = false) (hn : t.nmiPending = true) : pendingEvent t = .nmi := by
  simp [pendingEvent, hr, hn]

theorem pendingEvent_of_irq (hr : t.lines.reset = false) (hn : t.nmiPending = false) (hi : t.lines.irq = true)
    (hp : t.iPoll = false) : pendingEvent t = .irq := by
  simp [pendingEvent, hr, hn, hi, hp]

end

section
variable {s : State}

theorem step_of_reset (h : pendingEvent (sampleLines s) = .reset) : step s = takeReset (sampleLines s) := by
  simp only [step, h]

theorem step_of_nmi (h : pendingEvent (sampleLines s) = .nmi) : step s = takeNmi (sampleLines s) := by
  simp only [step, h]

theorem step_of_irq (h : pendingEvent (sampleLines s) = .irq) : step s = takeIrq (sampleLines s) := by
  simp only [step, h]

end

/-- Settles O41: the sample asserts no RESET, latches no NMI, and its IRQ is masked. -/
theorem maskedOrHeldLinesAreQuiet : Obligations.MaskedOrHeldLinesAreQuiet := by
  unfold Obligations.MaskedOrHeldLinesAreQuiet
  intro s l rest hin hreset hlatch hheld hmasked
  have hirq : (l.irq && !s.iPoll) = false := by
    cases hl : l.irq with
    | false => rfl
    | true => simp [hmasked hl]
  rw [State.Quiet, sampleLines_of_cons hin, pendingEvent_quiet_iff]
  exact ⟨hreset, by simp [hlatch, nmiEdge_eq_false hheld], hirq⟩

/-! The entry sequence (`60_exceptions.md` R162). -/

section
variable {s : State}

/-- The entry as the claims write it: the vector lies outside page 1, so the pushes do not reach it. -/
theorem enterTrap_stored {α : Type} {ret vec : Word} {b : Bool} (h0 : s.kindAt (stackByte s.sp) ≠ .device)
    (h1 : s.kindAt (stackByte (s.sp - 1)) ≠ .device) (h2 : s.kindAt (stackByte (s.sp - 2)) ≠ .device)
    (hl : s.Plain vec) (hh : s.Plain (vec + 1)) (hlPage : hiByte vec ≠ stackPage)
    (hhPage : hiByte (vec + 1) ≠ stackPage) (k : State → Answer α) :
    enterTrap ret b vec s k = k { s with
      mem := stored s [(stackByte s.sp, hiByte ret), (stackByte (s.sp - 1), loByte ret),
        (stackByte (s.sp - 2), statusByte b s.p)]
      sp := s.sp - 3
      p := { s.p with i := true }
      pc := wordOf (s.peek (vec + 1)) (s.peek vec) } := by
  rw [← sub_one_sub_one] at h2
  have hsp : s.sp - 1 - 1 - 1 = s.sp - 3 := by bv_omega
  rw [enterTrap_eq h0 h1 h2 hl hh, State.read_trapped_of_hiByte hhPage, State.read_trapped_of_hiByte hlPage,
    trapped_eq_stored, hsp]

theorem takeIrq_eq (h0 : s.kindAt (stackByte s.sp) ≠ .device) (h1 : s.kindAt (stackByte (s.sp - 1)) ≠ .device)
    (h2 : s.kindAt (stackByte (s.sp - 2)) ≠ .device) (hl : s.Plain vecIrq) (hh : s.Plain (vecIrq + 1)) :
    takeIrq s = .next { s with
      mem := stored s [(stackByte s.sp, hiByte s.pc), (stackByte (s.sp - 1), loByte s.pc),
        (stackByte (s.sp - 2), statusByte false s.p)]
      sp := s.sp - 3
      p := { s.p with i := true }
      iPoll := true
      pc := wordOf (s.peek (vecIrq + 1)) (s.peek vecIrq) } :=
  enterTrap_stored h0 h1 h2 hl hh (by decide) (by decide) _

theorem takeNmi_eq (h0 : s.kindAt (stackByte s.sp) ≠ .device) (h1 : s.kindAt (stackByte (s.sp - 1)) ≠ .device)
    (h2 : s.kindAt (stackByte (s.sp - 2)) ≠ .device) (hl : s.Plain vecNmi) (hh : s.Plain (vecNmi + 1)) :
    takeNmi s = .next { s with
      nmiPending := false
      mem := stored s [(stackByte s.sp, hiByte s.pc), (stackByte (s.sp - 1), loByte s.pc),
        (stackByte (s.sp - 2), statusByte false s.p)]
      sp := s.sp - 3
      p := { s.p with i := true }
      iPoll := true
      pc := wordOf (s.peek (vecNmi + 1)) (s.peek vecNmi) } :=
  enterTrap_stored (s := { s with nmiPending := false }) h0 h1 h2 hl hh (by decide) (by decide) _

end

/-- Settles O38: the boundary takes IRQ, and the latch stays clear. -/
theorem irqEntersHandler : Obligations.IrqEntersHandler := by
  unfold Obligations.IrqEntersHandler
  intro s l rest hin hreset hlatch hheld hirq hpoll h0 h1 h2 hl hh
  have hsample : sampleLines s = { s with inputs := rest, lines := l } := by
    rw [sampleLines_of_cons hin, nmiEdge_eq_false hheld, Bool.or_false]
  have hevent : pendingEvent (sampleLines s) = .irq := by
    rw [hsample]
    exact pendingEvent_of_irq hreset hlatch hirq hpoll
  rw [step_of_irq hevent, hsample]
  exact takeIrq_eq (s := { s with inputs := rest, lines := l }) h0 h1 h2 hl hh

/-- Settles O39: the boundary takes NMI, by the latch or by the edge. -/
theorem nmiEntersHandler : Obligations.NmiEntersHandler := by
  unfold Obligations.NmiEntersHandler
  intro s l rest hin hreset hnmi h0 h1 h2 hl hh
  have hlatch : (s.nmiPending || (l.nmi && !s.lines.nmi)) = true := by
    obtain h | ⟨hnow, hbefore⟩ := hnmi
    · simp [h]
    · simp [hnow, hbefore]
  have hsample : sampleLines s = { s with inputs := rest, lines := l, nmiPending := true } := by
    rw [sampleLines_of_cons hin, hlatch]
  have hevent : pendingEvent (sampleLines s) = .nmi := by
    rw [hsample]
    exact pendingEvent_of_nmi hreset rfl
  rw [step_of_nmi hevent, hsample]
  exact takeNmi_eq (s := { s with inputs := rest, lines := l, nmiPending := true }) h0 h1 h2 hl hh

/-! RESET (`70_reset_and_hazards.md` R180). -/

section
variable {s : State}

theorem enterReset_eq {α : Type} (hl : s.Plain vecReset) (hh : s.Plain (vecReset + 1)) (k : State → Answer α) :
    enterReset s k = k { s.unspecifiedByReset with
      p := { s.unspecifiedByReset.p with i := true }, nmiPending := false
      pc := wordOf (s.peek (vecReset + 1)) (s.peek vecReset) } := by
  have hkind (a : Word) : s.unspecifiedByReset.kindAt a = s.kindAt a :=
    State.kindAt_eq_of_params s.unspecifiedByReset_params a
  have hpeek (a : Word) : s.unspecifiedByReset.peek a = s.peek a :=
    State.peek_eq_of_mem s.unspecifiedByReset_mem a
  have hplain {a : Word} (h : s.Plain a) : s.unspecifiedByReset.Plain a := by rwa [State.Plain, hkind]
  rw [← hpeek, ← hpeek]
  exact read16_plain (s := { s.unspecifiedByReset with
    p := { s.unspecifiedByReset.p with i := true }, nmiPending := false }) (hplain hl) (hplain hh) _

/-- The reset values that the harness supplies. -/
theorem State.unspecifiedByReset_of_some {r : ResetValues} (h : s.params.resetState = some r) :
    s.unspecifiedByReset = { s with
      a := r.a, x := r.x, y := r.y, sp := r.sp
      p := { s.p with c := r.c, z := r.z, d := r.d, v := r.v, n := r.n } } := by
  simp only [State.unspecifiedByReset, h]

theorem takeReset_eq (hl : s.Plain vecReset) (hh : s.Plain (vecReset + 1)) :
    takeReset s = .next { s.unspecifiedByReset with
      p := { s.unspecifiedByReset.p with i := true }, iPoll := true, nmiPending := false
      pc := wordOf (s.peek (vecReset + 1)) (s.peek vecReset) } :=
  enterReset_eq hl hh _

end

/-- Settles O40: the boundary takes RESET, which writes nothing but what is listed. -/
theorem resetEventRestarts : Obligations.ResetEventRestarts := by
  unfold Obligations.ResetEventRestarts
  intro s l rest hin hreset hl hh
  have hlines : (sampleLines s).lines = l := by rw [sampleLines_of_cons hin]
  have hinputs : (sampleLines s).inputs = rest := by rw [sampleLines_of_cons hin]
  have hevent : pendingEvent (sampleLines s) = .reset := pendingEvent_of_reset (by rwa [hlines])
  refine ⟨_, (step_of_reset hevent).trans (takeReset_eq (s := sampleLines s) hl hh), rfl, rfl, rfl, rfl,
    State.unspecifiedByReset_mem _, State.unspecifiedByReset_params _,
    (State.unspecifiedByReset_lines _).trans hlines, (State.unspecifiedByReset_inputs _).trans hinputs, ?_⟩
  intro r hr
  rw [State.unspecifiedByReset_of_some (s := sampleLines s) hr]
  exact ⟨rfl, rfl, rfl, rfl, rfl⟩

/-! RTI undoes the entry (`60_exceptions.md` R167). -/

theorem getLsbD_append_ofBool_zero {w : Nat} (x : BitVec w) (b : Bool) : (x ++ BitVec.ofBool b).getLsbD 0 = b :=
  BitVec.getLsbD_concat_zero

theorem getLsbD_append_ofBool_succ {w : Nat} (x : BitVec w) (b : Bool) (k : Nat) :
    (x ++ BitVec.ofBool b).getLsbD (k + 1) = x.getLsbD k :=
  BitVec.getLsbD_concat_succ

/-- The flags survive being pushed and pulled, whatever bit 4 says (`10_state.md` R16). -/
theorem flagsOfByte_pByte (b : Bool) (p : Flags) : flagsOfByte (pByte b p) = p := by
  have hn : (BitVec.ofBool p.n).getLsbD 0 = p.n := by cases p.n <;> rfl
  have hbit5 : (1#1 : BitVec 1) = BitVec.ofBool true := rfl
  simp only [flagsOfByte, pByte, hbit5, getLsbD_append_ofBool_zero, getLsbD_append_ofBool_succ, hn]

section
variable {s : State}

/-- The status byte lies at `$01 : (S - 2)`: it was pushed last. -/
theorem State.read_trapped_status (hs : Inv s) (h2 : s.kindAt (stackAddr (s.sp - 1 - 1)) = .ram) (ret : Word)
    (b : Bool) : (s.trapped ret b).read (stackAddr (s.sp - 1 - 1)) = pByte b s.p :=
  State.read_poke_same (s := { s with mem := s.pushedWord ret }) (State.wf_poke (State.wf_poke hs _ _) _ _) h2 _

/-- The push of the status byte leaves the word above it alone. -/
theorem State.read_trapped_above {p : Byte} (h : p ≠ s.sp - 1 - 1) (ret : Word) (b : Bool) :
    (s.trapped ret b).read (stackAddr p) = (s.pushedWord ret).read (stackAddr p) :=
  State.read_poke_other (mt stackAddr_inj.mp h) { s with mem := s.pushedWord ret } _

end

/-- `t` has the registers, the map and the stack that a trap entry made in `s` leaves. -/
structure Entered (s t : State) (ret : Word) (b : Bool) : Prop where
  a_eq : t.a = s.a
  x_eq : t.x = s.x
  y_eq : t.y = s.y
  sp_eq : t.sp = s.sp - 1 - 1 - 1
  mem_eq : t.mem = s.trapped ret b
  params_eq : t.params = s.params

/-- RTI finds what the entry pushed, at the addresses it pushed to. -/
theorem execRti_of_entered {s t : State} {ret : Word} {b : Bool} (h : Entered s t ret b) (hs : Inv s)
    (h0 : s.kindAt (stackByte s.sp) = .ram) (h1 : s.kindAt (stackByte (s.sp - 1)) = .ram)
    (h2 : s.kindAt (stackByte (s.sp - 2)) = .ram) :
    execRti t = .next { t with pc := ret, sp := s.sp, p := s.p } := by
  rw [← sub_one_sub_one] at h2
  have hplain {a : Word} (ha : s.kindAt a = .ram) : t.Plain a :=
    .inl ((State.kindAt_eq_of_params h.params_eq a).trans ha)
  have hpeek (a : Word) : t.peek a = (s.trapped ret b).read a := by rw [State.peek_eq, h.mem_eq]
  have hsp : t.sp + 1 = s.sp - 1 - 1 := by rw [h.sp_eq, BitVec.sub_add_cancel]
  have hstatus : t.peek (stackAddr (s.sp - 1 - 1)) = pByte b s.p := by
    rw [hpeek, State.read_trapped_status hs h2]
  have hlo : t.peek (stackAddr (s.sp - 1)) = loByte ret := by
    rw [hpeek, State.read_trapped_above (by bv_omega), State.read_pushedWord_loByte hs h1]
  have hhi : t.peek (stackAddr s.sp) = hiByte ret := by
    rw [hpeek, State.read_trapped_above (by bv_omega), State.read_pushedWord_hiByte hs h0]
  rw [execRti, returnFromTrap, pull_plain (by rw [hsp]; exact hplain h2), hsp, hstatus, flagsOfByte_pByte]
  exact pullWord_of_stacked (s := { t with sp := s.sp - 1 - 1, p := s.p }) rfl (hplain h1) (hplain h0) hlo hhi _

/-- Settles O45: BRK is an entry with the return address two bytes on. -/
theorem brkThenRtiReturns : Obligations.BrkThenRtiReturns := by
  unfold Obligations.BrkThenRtiReturns
  intro s t hs h0 h1 h2 h
  have hentered : Entered s t (s.pc + 2) true := by
    obtain ⟨w, n, rfl⟩ := execBrk_next h
    exact ⟨rfl, rfl, rfl, rfl, rfl, rfl⟩
  exact execRti_of_entered hentered hs h0 h1 h2

theorem entered_of_event {s t : State} {ret vec : Word} {b : Bool}
    (h : enterTrap ret b vec s (fun u => .next u.settleMask) = (.next t : Result)) : Entered s t ret b := by
  obtain ⟨w, n, -, -, -, -, -, -, h⟩ := enterTrap_next h
  cases h
  exact ⟨rfl, rfl, rfl, rfl, rfl, rfl⟩

/-- IRQ and NMI are an entry that returns to the instruction not yet run (`60_exceptions.md` R163, R164). -/
theorem entered_of_step {s t : State}
    (hevent : pendingEvent (sampleLines s) = .irq ∨ pendingEvent (sampleLines s) = .nmi) (h : step s = .next t) :
    Entered (sampleLines s) t s.pc false := by
  obtain hirq | hnmi := hevent
  · rw [step_of_irq hirq] at h
    exact entered_of_event h
  · rw [step_of_nmi hnmi] at h
    obtain ⟨ha, hx, hy, hsp, hmem, hparams⟩ := entered_of_event h
    exact ⟨ha, hx, hy, hsp, hmem, hparams⟩

/-- Settles O46: the boundary's sample leaves alone all that the entry saves and RTI restores. -/
theorem interruptThenRtiResumes : Obligations.InterruptThenRtiResumes := by
  unfold Obligations.InterruptThenRtiResumes
  intro s t hs h0 h1 h2 hevent h
  have hentered := entered_of_step hevent h
  exact ⟨hentered.a_eq, hentered.x_eq, hentered.y_eq, execRti_of_entered (s := sampleLines s) hentered hs h0 h1 h2⟩

/-! The mask one instruction late (`60_exceptions.md` R164). -/

/-- A quiet step that finds the opcode of an instruction without operand at `pc` runs it on the sampled state. -/
theorem step_of_opcode {s : State} {i : Instr} (hq : s.Quiet) (h0 : s.Plain s.pc) (hop : s.peek s.pc = i.opcode)
    (ho : i.operand = .none) : step s = finishInstr i (sampleLines s) (exec i (sampleLines s)) := by
  have hf := selectedBy_operand i
  rw [ho] at hf
  rw [step_of_quiet hq]
  exact fetchInstr_one (s := sampleLines s) _ h0 (hop ▸ hf)

/-- CLI clears `I`, and `i_poll` is the `I` it found. -/
theorem step_of_cli {s : State} (hq : s.Quiet) (h0 : s.Plain s.pc) (hop : s.peek s.pc = 0x58) :
    step s = .next { sampleLines s with p := { s.p with i := false }, pc := s.pc + 1, iPoll := s.p.i } :=
  step_of_opcode (i := .cli) hq h0 hop rfl

/-- NOP leaves `i_poll` the `I` that stands. -/
theorem step_of_nop {s : State} (hq : s.Quiet) (h0 : s.Plain s.pc) (hop : s.peek s.pc = 0xEA) :
    step s = .next { sampleLines s with pc := s.pc + 1, iPoll := s.p.i } :=
  step_of_opcode (i := .nop) hq h0 hop rfl

/-- Settles O42: CLI leaves the mask set behind it, and the NOP takes over the `I` that CLI cleared. -/
theorem cliLetsOneInstructionRun : Obligations.CliLetsOneInstructionRun := by
  unfold Obligations.CliLetsOneInstructionRun
  intro s t hq h0 hop hi h
  obtain ⟨hi', hpoll, hlatch⟩ : t.p.i = false ∧ t.iPoll = true ∧ t.nmiPending = false := by
    rw [step_of_cli hq h0 hop, sampleLines_of_quiet hq] at h
    cases h
    exact ⟨rfl, hi, rfl⟩
  refine ⟨hi', fun l rest hreset hheld => ?_⟩
  have hquiet : ({ t with inputs := l :: rest } : State).Quiet :=
    maskedOrHeldLinesAreQuiet _ l rest rfl hreset hlatch hheld fun _ => hpoll
  refine ⟨hquiet, fun u hop' h0' hu => ?_⟩
  rw [step_of_nop hquiet h0' hop'] at hu
  cases hu
  exact hi'

end Sys2Proof.Machine
